-- ==== Sys2Proof/Word.lean ====
section
/-!
DEFINITION. The number types of the KX4816: what the manual numbers (ports, nodes, lines, lanes, entries, groups) is a
`Fin`, what it treats as bits (a byte of a frame, a 4-bit raise count, a 32-bit counter) is a bit vector.
-/

namespace Sys2Proof

/-- One byte of a frame; also a vector, a credit count, a tag, an operation code or a time setting, which the
manual gives as one byte of 0 to 255. -/
abbrev Byte := BitVec 8

/-- A counter: an unsigned 32-bit number that wraps (R188). -/
abbrev Counter := BitVec 32

/-- A node's running raise count, modulo 16 (R33). -/
abbrev RaiseCount := BitVec 4

/-- A field port, 0 to 3 (R1). -/
abbrev Port := Fin 4

/-- A node within its port, 0 to 63 (R1). -/
abbrev Node := Fin 64

/-- A line of a node, 0 or 1 (R1). -/
abbrev Line := Fin 2

/-- A host lane, 0 to 7. -/
abbrev LaneId := Fin 8

/-- A steering entry, 0 to 511 (R1). -/
abbrev EntryIdx := Fin 512

/-- A presence record, 0 to 255: port times 64 plus node (R97). -/
abbrev NodeIdx := Fin 256

/-- A consumer group, 0 to 15 (R48). -/
abbrev GroupId := Fin 16

/-- A priority, 0 to 3, 3 highest (R2). -/
abbrev Priority := Fin 4

end Sys2Proof
end

