-- ==== Sys2Proof/Config.lean ====
section
/-!
DEFINITION. What one KX4816 fixes: the capacities and the identity of section 5 of the scope chapter, the fixed
times of the manual, and the one value an implementation chooses and the manual does not state.
-/

namespace Sys2Proof.Config

/-- Delivery Queue depth, per lane (R67). -/
def queueDepth : Nat := 32

/-- Control queue depth, per lane (R135). -/
def controlDepth : Nat := 4

/-- Largest credit limit a HELLO may carry (R119). -/
def maxCreditLimit : Nat := 64

/-- Records the staging list holds at most (R165). -/
def stagingDepth : Nat := 16

/-- Records one READ_STAGING response carries at most (R170). -/
def stagingPortion : Nat := 8

/-- Longest payload of a lane frame (chapter 11.2). -/
def maxPayload : Nat := 60

/-- Vendor code 3A7h (R153). -/
def vendorCode : Nat := 0x3A7

/-- Part code 4816h (R153). -/
def partCode : Nat := 0x4816

/-- Revision 2 (R153). -/
def revision : Nat := 2

/-- The park reply time, 2 ms, in microseconds (R128). -/
def parkReplyTime : Nat := 2000

/-- The wake time from DOZE, 1 ms, in microseconds (R132). -/
def dozeWakeTime : Nat := 1000

/-- The wake time from DEEP, 20 ms, in microseconds (R132). -/
def deepWakeTime : Nat := 20000

/-- The sweep's visit time, 40 microseconds (R190). -/
def visitTime : Nat := 40

/-- Saturation of an entry's pending count (R17). -/
def maxPending : Nat := 255

/-- Saturation of a notice kind's repeats (R181). -/
def maxRepeats : Nat := 255

/-- The largest value of a lane's enqueue sequence, past which it wraps (R64). The manual says that it wraps and
does not say where, so this is a constant with no value (notes/assumptions/5.md). -/
opaque enqueueTop : Nat

end Sys2Proof.Config
end

