-- ==== Sys2Proof/Syntax.lean ====
section
/-!
DEFINITION. The commands of the KX4816: one constructor of `Instr` for each row of spec/opcode_table.json, with what the
row's event carries (a port, a node, a lane, the fields of the frame). Frames appear here decoded, as their fields; Decode.lean
says which command a frame's bytes are.
-/

namespace Sys2Proof

/-- The mask of a steering entry (R2). -/
inductive Mask where
  | masked
  | opened
  deriving DecidableEq, Repr

/-- The trigger of a steering entry (R2). -/
inductive Trigger where
  | edge
  | level
  deriving DecidableEq, Repr

/-- The policy of a consumer group (R48). -/
inductive Policy where
  | prefer
  | balance
  deriving DecidableEq, Repr

/-- The five fields of a configuration part (R2), as stored (R3) or as staged (R165). -/
structure Image where
  mask : Mask
  trigger : Trigger
  vector : Byte
  priority : Priority
  group : GroupId
  deriving DecidableEq, Repr

/-- The check code stored with an image (R3): it is computed over the five fields and the entry index. The manual does not give
the code; the model keeps what it was computed over, so that every change of the image or of the code is a mismatch
(R65 and section 10.5 say that a fault is always found; notes/assumptions/4.md). -/
structure CheckCode where
  image : Image
  index : EntryIdx
  deriving DecidableEq, Repr

/-- A storage fault (R3): a change of the stored image or of its check code from outside. -/
inductive StorageFault where
  | image (img : Image)
  | code (c : CheckCode)
  deriving DecidableEq, Repr

/-- The commands: everything that can happen to the bridge, one constructor for each row of spec/opcode_table.json. -/
inductive Instr where
  /-- RAISE (R35 to R38): node `n` of port `p` reports a rise of line `l`, with its raise count after it. -/
  | raise (p : Port) (n : Node) (l : Line) (count : RaiseCount)
  /-- DROP (R39, R40): node `n` of port `p` reports a fall of line `l`, with the count of the raise it closes. -/
  | drop (p : Port) (n : Node) (l : Line) (count : RaiseCount)
  /-- PRESENT (R41 to R43): level (true: asserted) and raise count of both lines of node `n` of port `p`. -/
  | present (p : Port) (n : Node) (level0 : Bool) (count0 : RaiseCount) (level1 : Bool) (count1 : RaiseCount)
  /-- FIELD_FRAME_DISCARDED (R28 to R30): port `p` hears a frame of these bytes, which fails its length, check or kind. -/
  | fieldFrameDiscarded (p : Port) (bytes : List Byte)
  /-- PORT_LINK_LOSS (R27, R105). -/
  | portLinkLoss (p : Port)
  /-- PORT_LINK_GAINED (R27, R106). -/
  | portLinkGained (p : Port)
  /-- QUIET_TIMER_EXPIRY (R101, R102). -/
  | quietTimerExpiry (p : Port) (n : Node)
  /-- PROBE (R99): the transmitter of port `p` takes a PROBE, the oldest frame of its send list. -/
  | probe (p : Port)
  /-- ROLLCALL (R99): the transmitter of port `p` takes the ROLLCALL, the oldest frame of its send list. -/
  | rollcall (p : Port)
  /-- STORAGE_FAULT (R3): what is stored for entry `i` changes from outside. -/
  | storageFault (i : EntryIdx) (f : StorageFault)
  /-- HELLO (R119, R120): the frame carries a credit limit, 0 to 255. -/
  | hello (k : LaneId) (limit : Byte)
  /-- GOODBYE (R121). -/
  | goodbye (k : LaneId)
  /-- RETIRE (R88): the frame carries a vector, 0 to 255. -/
  | retire (k : LaneId) (vector : Byte)
  /-- CREDIT (R76): the frame carries a count, 0 to 255. -/
  | credit (k : LaneId) (count : Byte)
  /-- MGMT_REQUEST (R143, R145): the frame's payload, of at most 60 bytes: tag, operation code, arguments. -/
  | mgmtRequest (k : LaneId) (payload : List Byte)
  /-- PARK_ACK (R129). `hostWake` is the level of the lane's host wake input at this event, which R132 reads when the lane enters
  DOZE or DEEP. -/
  | parkAck (k : LaneId) (hostWake : Bool)
  /-- PARK_NAK (R129); `hostWake` as for PARK_ACK. -/
  | parkNak (k : LaneId) (hostWake : Bool)
  /-- READY (R133). -/
  | ready (k : LaneId)
  /-- LANE_FRAME_DISCARDED (R197): lane `k` receives a frame of these bytes, which fails its length, check or kind. -/
  | laneFrameDiscarded (k : LaneId) (bytes : List Byte)
  /-- LANE_LINK_LOST (R117). -/
  | laneLinkLost (k : LaneId)
  /-- LANE_LINK_GAINED (R117). -/
  | laneLinkGained (k : LaneId)
  /-- HOST_WAKE_RAISED (R130, R132, R200): the host wake input of the lane goes from low to high. -/
  | hostWakeRaised (k : LaneId)
  /-- IDLE_TIMER_EXPIRY (R128). -/
  | idleTimerExpiry (k : LaneId)
  /-- DEEP_TIMER_EXPIRY (R131). -/
  | deepTimerExpiry (k : LaneId)
  /-- PARK_REPLY_TIMEOUT (R129); `hostWake` as for PARK_ACK. -/
  | parkReplyTimeout (k : LaneId) (hostWake : Bool)
  /-- WAKE_TIMER_EXPIRY (R133). -/
  | wakeTimerExpiry (k : LaneId)
  /-- HELLO_REPLY_GRANT (R136, rank 1). -/
  | helloReplyGrant (k : LaneId)
  /-- PARK_GRANT (R128, R136, rank 2). -/
  | parkGrant (k : LaneId)
  /-- MGMT_RESPONSE_GRANT (R136, rank 3). -/
  | mgmtResponseGrant (k : LaneId)
  /-- NOTICE_GRANT (R184, rank 4), on the manager lane. -/
  | noticeGrant
  /-- SEND (R72, rank 5): the grant of the EVENT slot of lane `k`. -/
  | send (k : LaneId)
  /-- TRANSMISSION_COMPLETE (R137): the frame that lane `k` is sending completes. -/
  | transmissionComplete (k : LaneId)
  /-- RESTART_EVENT (R162, R163). -/
  | restartEvent
  /-- IDENTIFY (R153). This and the twenty-one rows after it are service events of the Management Engine (R147): the request served, its lane, its tag
  and its arguments are those of the request slot that the round-robin search reaches first. -/
  | identify
  /-- READ_ENTRY (R25). -/
  | readEntry
  /-- READ_GROUP (R50). -/
  | readGroup
  /-- READ_LANE (R139). `hostWake` is the level of the host wake input of the lane read, at this event. -/
  | readLane (hostWake : Bool)
  /-- READ_NODE (R109). -/
  | readNode
  /-- READ_PORT (R47). -/
  | readPort
  /-- READ_NOTICES (R185). -/
  | readNotices
  /-- READ_STAGING (R170). -/
  | readStaging
  /-- READ_SWEEP (R193). -/
  | readSweep
  /-- STAGE_ENTRY (R167, R169). -/
  | stageEntry
  /-- STAGE_GROUP (R168, R169). -/
  | stageGroup
  /-- COMMIT (R172 to R178). -/
  | commit
  /-- DISCARD (R171). -/
  | discard
  /-- SET_LANE (R155 to R157). -/
  | setLane
  /-- SET_PORT (R158). -/
  | setPort
  /-- SET_MANAGER (R159). -/
  | setManager
  /-- CLEAR_NOTICES (R186). -/
  | clearNotices
  /-- CLEAR_COUNTERS (R160). -/
  | clearCounters
  /-- FORCE_RETIRE (R93). -/
  | forceRetire
  /-- START_SWEEP (R190). -/
  | startSweep
  /-- RESTART (R161). -/
  | restart
  /-- SWEEP_VISIT (R191). -/
  | sweepVisit
  /-- POWER_ON_RESET (R201): RESET_N low for 1 microsecond or more, or power-up, up to the release. `ports` are the ports whose link
  is present at the release, in the order in which their link gained events are taken; `lanes` the lanes whose link is present; `wakes`
  the lanes whose host wake input is high. -/
  | powerOnReset (ports : List Port) (lanes : List LaneId) (wakes : List LaneId)
  /-- REFUSED_UNKNOWN (R148): the service of a request whose operation code names no operation. -/
  | refusedUnknown
  /-- PORT_TRANSMISSION_COMPLETE (R99): the frame that port `p` is sending completes. -/
  | portTransmissionComplete (p : Port)
  deriving DecidableEq, Repr

end Sys2Proof
end

