-- ==== Sys2Proof/Machine/Wire.lean ====
section
/-!
DEFINITION. Bytes on the wire: how values are split into bytes (chapter 11, high byte first), the two check codes (R195, R196), and how a
receiver judges and reads the bytes of a field frame (R28 to R30) and of a lane frame (R197, R198).
-/

namespace Sys2Proof.Machine

/-- A value of 0 to 65535 as two bytes, high byte first (chapter 11). -/
def twoBytes (n : Nat) : List Byte := [BitVec.ofNat 8 (n / 256), BitVec.ofNat 8 n]

/-- A counter as four bytes, high byte first (R199). -/
def fourBytes (c : Counter) : List Byte :=
  [c.extractLsb' 24 8, c.extractLsb' 16 8, c.extractLsb' 8 8, c.extractLsb' 0 8]

/-- The value of two bytes, high byte first. -/
def ofTwoBytes (hi lo : Byte) : Nat := hi.toNat * 256 + lo.toNat

/-- A number as one byte. -/
def oneByte (n : Nat) : Byte := BitVec.ofNat 8 n

/-- A yes/no value: 01h or 00h (R199). -/
def yesNo (b : Bool) : Byte := if b then 1 else 0

/-- One bit of the CRC-8: generator x^8 + x^2 + x + 1, most significant bit first (R195). -/
def crc8Bit (r : Byte) : Byte := if r.msb then (r <<< 1) ^^^ 0x07#8 else r <<< 1

/-- The CRC-8 of field frames: register starting at 00h, result not inverted (R29, R195). -/
def crc8 (bytes : List Byte) : Byte :=
  bytes.foldl (fun r b => Nat.iterate crc8Bit 8 (r ^^^ b)) 0

/-- One bit of the CRC-16: generator x^16 + x^12 + x^5 + 1, most significant bit first (R196). -/
def crc16Bit (r : BitVec 16) : BitVec 16 := if r.msb then (r <<< 1) ^^^ 0x1021#16 else r <<< 1

/-- The CRC-16 of lane frames: register starting at FFFFh, result not inverted (R196). -/
def crc16 (bytes : List Byte) : BitVec 16 :=
  bytes.foldl (fun r b => Nat.iterate crc16Bit 8 (r ^^^ ((b.setWidth 16 : BitVec 16) <<< (8 : Nat)))) 0xFFFF

/-- A field frame: three bytes and the CRC-8 over them (chapter 11.1). -/
def fieldFrameBytes (b0 b1 b2 : Byte) : List Byte := [b0, b1, b2, crc8 [b0, b1, b2]]

/-- A lane frame: kind, payload length, payload and the CRC-16 over them, high byte first (chapter 11.2). -/
def laneFrameBytes (kind : Byte) (payload : List Byte) : List Byte :=
  let body := kind :: oneByte payload.length :: payload
  body ++ twoBytes (crc16 body).toNat

/-- The node number of a field frame's byte 0: bits 5 to 0. -/
def nodeField (b0 : Byte) : Node := ⟨b0.toNat % 64, Nat.mod_lt _ (by decide)⟩

/-- The line of a RAISE or a DROP: bit 4 of byte 1, so that every value names a line (R195). -/
def lineField (b1 : Byte) : Line := if b1.getLsbD 4 then 1 else 0

/-- The level of a PRESENT's line: bit 4 of its byte, 1 for asserted. -/
def levelField (b : Byte) : Bool := b.getLsbD 4

/-- The raise count of a field frame: bits 3 to 0 of its byte. -/
def countField (b : Byte) : RaiseCount := b.setWidth 4

/-- The kinds a node sends, from byte 0's bits 7 to 6 (R30); kind code 3 is none of them. Bits that carry no field are ignored. -/
def decodeField (p : Port) (b0 b1 b2 : Byte) : Option Instr :=
  match b0.toNat / 64 with
  | 0 => some (.raise p (nodeField b0) (lineField b1) (countField b1))
  | 1 => some (.drop p (nodeField b0) (lineField b1) (countField b1))
  | 2 => some (.present p (nodeField b0) (levelField b1) (countField b1) (levelField b2) (countField b2))
  | _ => none

/-- The judgement of a complete field frame: length (R28), check (R29), kind (R30). `none`: the frame is discarded. -/
def judgeField (p : Port) (bytes : List Byte) : Option Instr :=
  match bytes with
  | [b0, b1, b2, b3] => if crc8 [b0, b1, b2] = b3 then decodeField p b0 b1 b2 else none
  | _ => none

/-- The eight kinds a host sends (chapter 11.2) with their payloads, read as R198 states: a missing byte is 00h, and bytes beyond the
layout are ignored. `none` for an unknown kind and for a kind only the bridge sends (R118). -/
def decodeLane (k : LaneId) (hostWake : Bool) (kind : Byte) (payload : List Byte) : Option Instr :=
  match kind.toNat with
  | 0x10 => some (.hello k (payload.headD 0))
  | 0x13 => some (.goodbye k)
  | 0x21 => some (.retire k (payload.headD 0))
  | 0x22 => some (.credit k (payload.headD 0))
  | 0x30 => some (.mgmtRequest k payload)
  | 0x41 => some (.parkAck k hostWake)
  | 0x42 => some (.parkNak k hostWake)
  | 0x43 => some (.ready k)
  | _ => none

/-- The judgement of a complete lane frame: length, check, kind, in that order (R197). `none`: the frame is discarded. -/
def judgeLane (k : LaneId) (hostWake : Bool) (bytes : List Byte) : Option Instr :=
  match bytes with
  | kind :: len :: rest =>
    if len.toNat ≤ Config.maxPayload ∧ rest.length = len.toNat + 2 then
      let payload := rest.take len.toNat
      if rest.drop len.toNat = twoBytes (crc16 (kind :: len :: payload)).toNat then
        decodeLane k hostWake kind payload
      else none
    else none
  | _ => none

end Sys2Proof.Machine
end

