-- ==== Sys2Proof/Decode.lean ====
section
/-!
DEFINITION. From bytes to commands. The opcode table gives its rows no bits, so no table word spells a command. What the block does decode
is frames: `receiveField` and `receiveLane` say, for any bytes a port or a lane receives, which command their arrival is, and `fieldWire` and
`laneWire` write the bytes of a command that is a frame, from the same layouts.
-/

namespace Sys2Proof

open Machine

/-- The command that a table word spells: none, for every row of spec/opcode_table.json has no bits. -/
def decodeTableWord (_nbits _w : Nat) : Option Instr := none

/-- The command that the arrival of these bytes on field port `p` is (R28 to R31): a RAISE, a DROP or a PRESENT, or else a frame discarded. -/
def receiveField (p : Port) (bytes : List Byte) : Instr :=
  (judgeField p bytes).getD (.fieldFrameDiscarded p bytes)

/-- The command that the arrival of these bytes on host lane `k` is (R197, R198): one of the eight host kinds, or else a frame discarded.
`hostWake` is the level of the lane's host wake input at the arrival. -/
def receiveLane (k : LaneId) (hostWake : Bool) (bytes : List Byte) : Instr :=
  (judgeLane k hostWake bytes).getD (.laneFrameDiscarded k bytes)

/-- The byte of a line's raise count, with bit 4 as given (chapter 11.1). -/
def countByte (bit4 : Bool) (c : RaiseCount) : Byte := oneByte ((if bit4 then 16 else 0) + c.toNat)

/-- The bytes of the command as a node sends it on its segment; none for a command that is no node frame. -/
def fieldWire (i : Instr) : Option (List Byte) :=
  match i with
  | .raise _ n l c => some (fieldFrameBytes (oneByte n) (countByte (l = 1) c) 0)
  | .drop _ n l c => some (fieldFrameBytes (oneByte (64 + n)) (countByte (l = 1) c) 0)
  | .present _ n v0 c0 v1 c1 => some (fieldFrameBytes (oneByte (128 + n)) (countByte v0 c0) (countByte v1 c1))
  | .fieldFrameDiscarded _ bytes => some bytes
  | _ => none

/-- The bytes of the command as a host sends it on its lane; none for a command that is no host frame. -/
def laneWire (i : Instr) : Option (List Byte) :=
  match i with
  | .hello _ m => some (laneFrameBytes 0x10 [m])
  | .goodbye _ => some (laneFrameBytes 0x13 [])
  | .retire _ v => some (laneFrameBytes 0x21 [v])
  | .credit _ c => some (laneFrameBytes 0x22 [c])
  | .mgmtRequest _ payload => some (laneFrameBytes 0x30 payload)
  | .parkAck _ _ => some (laneFrameBytes 0x41 [])
  | .parkNak _ _ => some (laneFrameBytes 0x42 [])
  | .ready _ => some (laneFrameBytes 0x43 [])
  | .laneFrameDiscarded _ bytes => some bytes
  | _ => none

end Sys2Proof
end

