-- ==== Sys2Proof/Machine/State.lean ====
section
/-!
DEFINITION. The state of the KX4816 as plain data, one field for each piece of state the manual names, and its value after a power-on reset.
Alternatives that carry data (a delivery state with its lane or its binding) are inductive types, so that the optional parts of R5 are
present exactly where the manual has them. Times are in microseconds; a timer is `none` when stopped.
-/

namespace Sys2Proof.Machine

/-- The reasons a step faults. The manual gives the block no fault: every command has a next state, so there is none. -/
inductive Fault where
  deriving DecidableEq, Repr

/-- The reasons a step refuses. -/
inductive Refusal where
  /-- A command with no meaning yet, by its mnemonic: raised by `exec`'s refused arms only, of which there is none. Safe: the machine stops. -/
  | notModelled (mnemonic : String)
  deriving DecidableEq, Repr

/-- The delivery state of an entry with its optional part (R5, R8): the held lane, the queued lane, or the binding of lane and vector (R85). -/
inductive DeliveryState where
  | idle
  | latched
  | stranded
  | held (lane : LaneId)
  | queued (lane : LaneId)
  | outstanding (lane : LaneId) (vector : Byte)
  deriving DecidableEq, Repr

/-- A steering entry (R1): the configuration part (R2, R3) and the dynamic part (R5). -/
structure Entry where
  /-- the stored image (R3) -/
  image : Image
  /-- the check code stored with it (R3) -/
  code : CheckCode
  /-- the working mask (R3) -/
  workMask : Mask
  /-- the working trigger (R3) -/
  workTrigger : Trigger
  /-- delivery state, with held lane, queued lane or binding (R5) -/
  state : DeliveryState
  /-- line level, true for asserted (R5) -/
  line : Bool
  /-- raise count, `none` for UNKNOWN (R5, R33) -/
  raiseCount : Option RaiseCount
  /-- pending count (R5) -/
  pendingCount : Nat
  /-- quarantine flag (R5) -/
  quarantined : Bool
  deriving DecidableEq, Repr

/-- A group record (R48). -/
structure Group where
  policy : Policy
  lanes : List LaneId
  deriving DecidableEq, Repr

/-- A Delivery Queue item (R65). -/
structure Item where
  entry : EntryIdx
  vector : Byte
  priority : Priority
  order : Nat
  deriving DecidableEq, Repr

/-- The depth of a park (R113). -/
inductive Depth where
  | doze
  | deep
  deriving DecidableEq, Repr

/-- A lane state (R113). -/
inductive LaneState where
  | disabled
  | down
  | active
  | parking (depth : Depth)
  | doze
  | deep
  | waking
  deriving DecidableEq, Repr

/-- Management rights of a lane (R115). -/
inductive Rights where
  | none
  | observe
  | full
  deriving DecidableEq, Repr

/-- The outcomes of a management response, in the order of the table of R152. -/
inductive MgmtOutcome where
  | done
  | refusedBusy
  | refusedRights
  | refusedRange
  | refusedUnknown
  | refusedState
  | refusedStagingOwned
  | refusedStagingFull
  | refusedNoStaging
  | refusedValidation
  | refusedLastManager
  | refusedSelf
  | refusedInProgress
  deriving DecidableEq, Repr

/-- A MGMT_RESPONSE (R143): tag and operation code copied from the request, outcome, result data. -/
structure Response where
  tag : Byte
  op : Byte
  outcome : MgmtOutcome
  data : List Byte
  deriving DecidableEq, Repr

/-- An accepted management request in a slot (R144). -/
structure Request where
  tag : Byte
  op : Byte
  args : List Byte
  deriving DecidableEq, Repr

/-- What waits in a lane's hello reply (R114); HELLO_NAK carries the limit as received (chapter 11.3). -/
inductive HelloReply where
  | ack
  | nak (limit : Byte)
  deriving DecidableEq, Repr

/-- The ten notice kinds (R181). -/
inductive NoticeKind where
  | nodeArrived
  | nodeLost
  | portLink
  | laneDown
  | entryStranded
  | strayRetire
  | creditOverrun
  | tableFault
  | sweepDone
  | countSaturated
  deriving DecidableEq, Repr

/-- A frame the bridge sends on a host lane, with its contents (R71, R119, R143, R184, chapter 11.3). -/
inductive LaneFrame where
  | helloAck (lane : LaneId)
  | helloNak (limit : Byte)
  | park (depth : Depth)
  | response (r : Response)
  | notice (kind : NoticeKind) (detail : Nat) (repeats : Nat)
  | event (vector : Byte) (source : EntryIdx) (priority : Priority) (trigger : Trigger) (count : Nat)
  deriving DecidableEq, Repr

/-- The four settings of a lane (R115): `dozeAfter` in ms, `deepAfter` in units of 10 ms. -/
structure LaneSettings where
  rights : Rights
  dozeAfter : Byte
  deepAfter : Byte
  enabled : Bool
  deriving DecidableEq, Repr

/-- The seven lane counters (section 10.4), in the order of the catalogue. -/
structure LaneCounters where
  eventsSent : Counter
  retiresReceived : Counter
  strayRetires : Counter
  creditsOverrun : Counter
  requestsDropped : Counter
  framesDiscarded : Counter
  parksDeclined : Counter
  deriving DecidableEq, Repr

/-- All that is held for one host lane: its Lane Controller (R114, R115), its Lane Delivery (R64), and its request slot and staging read position in
the Management Engine (R144, R170). -/
structure Lane where
  /-- lane state (R113) -/
  state : LaneState
  /-- link state, true for present (R114) -/
  link : Bool
  /-- hello reply (R114) -/
  helloReply : Option HelloReply
  /-- control queue, oldest first (R135) -/
  control : List Response
  /-- idle timer (R127) -/
  idleTimer : Option Nat
  /-- deep timer (R127, R131) -/
  deepTimer : Option Nat
  /-- park reply timer (R128); it runs exactly while a PARK has been granted and not settled -/
  parkReplyTimer : Option Nat
  /-- wake timer (R132) -/
  wakeTimer : Option Nat
  /-- wake pending (R114) -/
  wakePending : Bool
  /-- deep park due (R131) -/
  deepParkDue : Bool
  /-- bridge wake signal, true for raised (R114, R200) -/
  bridgeWake : Bool
  /-- host wake input, true for high, as last seen at a command (R114 observes it and does not hold it; notes/assumptions/3.md) -/
  hostWake : Bool
  /-- lane settings (R115) -/
  settings : LaneSettings
  /-- lane counters (section 10.4) -/
  counters : LaneCounters
  /-- Delivery Queue, head first (R64, R66) -/
  queue : List Item
  /-- held list, oldest first (R64, R68) -/
  held : List EntryIdx
  /-- credit limit (R64) -/
  creditLimit : Option Nat
  /-- available credit (R64) -/
  availableCredit : Nat
  /-- enqueue sequence (R64) -/
  enqueueSeq : Nat
  /-- request slot (R144) -/
  slot : Option Request
  /-- staging read position (R170) -/
  readPos : Nat
  /-- the frame the transmitter is sending (R136, R137) -/
  sending : Option LaneFrame
  deriving DecidableEq, Repr

/-- A presence state (R97). -/
inductive Presence where
  | unknown
  | present
  | doubted
  | absent
  deriving DecidableEq, Repr

/-- A presence record (R97). -/
structure NodeRecord where
  presence : Presence
  quietTimer : Option Nat
  probeWaiting : Bool
  deriving DecidableEq, Repr

/-- A frame the bridge sends on a field port (R99). -/
inductive PortFrame where
  | probe (n : Node)
  | rollcall
  deriving DecidableEq, Repr

/-- The state of a field port: its receiver (R26), its send list and its transmitter (R99). -/
structure PortRecord where
  /-- link state, true for up (R26) -/
  link : Bool
  /-- quiet time in ms (R26, R98) -/
  quietTime : Byte
  framesAccepted : Counter
  framesDiscarded : Counter
  duplicates : Counter
  missedRaises : Counter
  /-- send list, oldest first (R99) -/
  sendList : List PortFrame
  /-- the frame the transmitter is sending (R32, R99) -/
  sending : Option PortFrame
  deriving DecidableEq, Repr

/-- A record of the notice table (R181). -/
structure NoticeRecord where
  isSet : Bool
  sent : Bool
  detail : Nat
  repeats : Nat
  deriving DecidableEq, Repr

/-- A staged record (R165): its target and its content. -/
inductive StagedRecord where
  | entry (i : EntryIdx) (content : Image)
  | group (g : GroupId) (content : Group)
  deriving DecidableEq, Repr

/-- Restart pending (R144) with what it waits for (R162): `no`; the DONE of lane `k` is still to complete; or the restart event is due. -/
inductive RestartPhase where
  | no
  | awaitingDone (k : LaneId)
  | due
  deriving DecidableEq, Repr

/-- The Table Sweep (R189). -/
structure Sweep where
  running : Bool
  position : Nat
  faultsFound : Nat
  visitTimer : Option Nat
  deriving DecidableEq, Repr

/-- The state of the bridge, and the queue of the commands that wait. -/
structure State where
  /-- the Steering Table (R1) -/
  entries : Vector Entry 512
  /-- the Group Table (R48) -/
  groups : Vector Group 16
  /-- the eight host lanes -/
  lanes : Vector Lane 8
  /-- the presence records, port times 64 plus node (R97) -/
  nodes : Vector NodeRecord 256
  /-- the four field ports -/
  ports : Vector PortRecord 4
  /-- round-robin pointer (R144) -/
  pointer : LaneId
  /-- restart pending (R144) -/
  restart : RestartPhase
  /-- the staging list in staging order (R165) -/
  staging : List StagedRecord
  /-- its owner lane (R165) -/
  owner : Option LaneId
  /-- the notice table, kind 1 first (R181) -/
  notices : Vector NoticeRecord 10
  /-- the manager lane (R181) -/
  manager : LaneId
  /-- the Table Sweep (R189) -/
  sweep : Sweep
  /-- the commands that wait, first in, first out: the model's own queue -/
  pending : List Instr
  deriving DecidableEq, Repr

/-- The stored image at power-on (R4). -/
def powerOnImage : Image := { mask := .masked, trigger := .edge, vector := 0, priority := 0, group := 0 }

/-- An entry at power-on (R4, R6), with a matching check code. -/
def Entry.powerOn (i : EntryIdx) : Entry :=
  { image := powerOnImage, code := { image := powerOnImage, index := i }, workMask := .masked, workTrigger := .edge,
    state := .idle, line := false, raiseCount := none, pendingCount := 0, quarantined := false }

/-- A group record at power-on (R49): group 0 is PREFER [0], the others PREFER []. -/
def Group.powerOn (g : GroupId) : Group := { policy := .prefer, lanes := if g = 0 then [0] else [] }

/-- The lane counters at 0. -/
def LaneCounters.zero : LaneCounters := ⟨0, 0, 0, 0, 0, 0, 0⟩

/-- The lane settings at power-on (R115): doze-after 20 ms, deep-after 50 (500 ms), enabled; lane 0 FULL, the others OBSERVE. -/
def LaneSettings.powerOn (k : LaneId) : LaneSettings :=
  { rights := if k = 0 then .full else .observe, dozeAfter := 20, deepAfter := 50, enabled := true }

/-- A lane at power-on (R64, R114, R115, R144, R170). -/
def Lane.powerOn (k : LaneId) : Lane :=
  { state := .down, link := false, helloReply := none, control := [], idleTimer := none, deepTimer := none,
    parkReplyTimer := none, wakeTimer := none, wakePending := false, deepParkDue := false, bridgeWake := false,
    hostWake := false, settings := .powerOn k, counters := .zero, queue := [], held := [], creditLimit := none,
    availableCredit := 0, enqueueSeq := 0, slot := none, readPos := 0, sending := none }

/-- A presence record at power-on (R97, R107). -/
def NodeRecord.powerOn : NodeRecord := { presence := .unknown, quietTimer := none, probeWaiting := false }

/-- A field port at power-on (R26, R99). -/
def PortRecord.powerOn : PortRecord :=
  { link := false, quietTime := 40, framesAccepted := 0, framesDiscarded := 0, duplicates := 0, missedRaises := 0,
    sendList := [], sending := none }

/-- A clear notice kind (R181). -/
def NoticeRecord.clear : NoticeRecord := { isSet := false, sent := false, detail := 0, repeats := 0 }

/-- The Table Sweep at power-on and after the restart event (R189). -/
def Sweep.stopped : Sweep := { running := false, position := 0, faultsFound := 0, visitTimer := none }

/-- The bridge right after a power-on reset, before any detector has been read (R4, R6, R26, R49, R64, R97, R114, R115, R144, R165, R170, R181, R189);
no command waits. -/
def State.reset : State :=
  { entries := ⟨⟨(List.finRange 512).map Entry.powerOn⟩, by simp⟩
    groups := ⟨⟨(List.finRange 16).map Group.powerOn⟩, by simp⟩
    lanes := ⟨⟨(List.finRange 8).map Lane.powerOn⟩, by simp⟩
    nodes := .replicate 256 .powerOn
    ports := .replicate 4 .powerOn
    pointer := 7
    restart := .no
    staging := []
    owner := none
    notices := .replicate 10 .clear
    manager := 0
    sweep := .stopped
    pending := [] }

end Sys2Proof.Machine
end

