-- ==== Sys2Proof/Machine/Ops.lean ====
section
/-!
DEFINITION. The named reads and writes of the state's tables, the entry index of a source key (R1), and the two properties of a lane that
every chapter asks for: live (R113) and idle (R127). No other file indexes a table or writes a record of one.
-/

namespace Sys2Proof.Machine

/-- The table with `f` applied to every row. -/
def mapRows {α β : Type} {n : Nat} (f : α → β) (v : Vector α n) : Vector β n :=
  ⟨⟨v.toList.map f⟩, by simp⟩

/-- The row numbers, ascending, whose row satisfies `p`. -/
def rowsWhere {α : Type} {n : Nat} (p : α → Bool) (v : Vector α n) : List (Fin n) :=
  ((List.finRange n).zip v.toList).filterMap (fun r => if p r.2 then some r.1 else none)

/-- The entry index of a source key: port × 128 + node × 2 + line (R1). -/
def entryIndex (p : Port) (n : Node) (l : Line) : EntryIdx := ⟨p * 128 + n * 2 + l, by omega⟩

/-- The port of entry `i` (R1). -/
def entryPort (i : EntryIdx) : Port := ⟨i / 128, by omega⟩

/-- The node of entry `i` (R1). -/
def entryNode (i : EntryIdx) : Node := ⟨i % 128 / 2, by omega⟩

/-- The line of entry `i` (R1). -/
def entryLine (i : EntryIdx) : Line := ⟨i % 2, by omega⟩

/-- The presence record of node `n` of port `p` (R97). -/
def nodeIndex (p : Port) (n : Node) : NodeIdx := ⟨p * 64 + n, by omega⟩

/-- Entry `i` (R1). -/
def State.entry (s : State) (i : EntryIdx) : Entry := s.entries[i.val]

/-- Entry `i` changed by `f`. -/
def State.modEntry (s : State) (i : EntryIdx) (f : Entry → Entry) : State :=
  { s with entries := s.entries.set i.val (f (s.entry i)) }

/-- Group record `g` (R48). -/
def State.group (s : State) (g : GroupId) : Group := s.groups[g.val]

/-- Group record `g` replaced. -/
def State.setGroup (s : State) (g : GroupId) (r : Group) : State :=
  { s with groups := s.groups.set g.val r }

/-- Lane `k`. -/
def State.lane (s : State) (k : LaneId) : Lane := s.lanes[k.val]

/-- Lane `k` changed by `f`. -/
def State.modLane (s : State) (k : LaneId) (f : Lane → Lane) : State :=
  { s with lanes := s.lanes.set k.val (f (s.lane k)) }

/-- Every lane changed by `f`, which is told the lane's number. -/
def State.mapLanes (s : State) (f : LaneId → Lane → Lane) : State :=
  { s with lanes := #v[f 0 (s.lane 0), f 1 (s.lane 1), f 2 (s.lane 2), f 3 (s.lane 3),
                       f 4 (s.lane 4), f 5 (s.lane 5), f 6 (s.lane 6), f 7 (s.lane 7)] }

/-- The presence record of node `n` of port `p` (R97). -/
def State.node (s : State) (p : Port) (n : Node) : NodeRecord := s.nodes[(nodeIndex p n).val]

/-- That presence record changed by `f`. -/
def State.modNode (s : State) (p : Port) (n : Node) (f : NodeRecord → NodeRecord) : State :=
  { s with nodes := s.nodes.set (nodeIndex p n).val (f (s.node p n)) }

/-- Field port `p`. -/
def State.port (s : State) (p : Port) : PortRecord := s.ports[p.val]

/-- Field port `p` changed by `f`. -/
def State.modPort (s : State) (p : Port) (f : PortRecord → PortRecord) : State :=
  { s with ports := s.ports.set p.val (f (s.port p)) }

/-- The place of a notice kind in the table: its kind number less 1 (R181). -/
def NoticeKind.index : NoticeKind → Fin 10
  | .nodeArrived => 0
  | .nodeLost => 1
  | .portLink => 2
  | .laneDown => 3
  | .entryStranded => 4
  | .strayRetire => 5
  | .creditOverrun => 6
  | .tableFault => 7
  | .sweepDone => 8
  | .countSaturated => 9

/-- The ten kinds in kind-number order (R181). -/
def noticeKinds : List NoticeKind :=
  [.nodeArrived, .nodeLost, .portLink, .laneDown, .entryStranded, .strayRetire, .creditOverrun, .tableFault,
    .sweepDone, .countSaturated]

/-- The kind number, 1 to 10 (R181). -/
def NoticeKind.number (k : NoticeKind) : Nat := k.index + 1

/-- The record of notice kind `k` (R181). -/
def State.notice (s : State) (k : NoticeKind) : NoticeRecord := s.notices[k.index.val]

/-- That record replaced. -/
def State.setNotice (s : State) (k : NoticeKind) (r : NoticeRecord) : State :=
  { s with notices := s.notices.set k.index.val r }

/-- A kind that is set and not sent is unsent (R181). -/
def NoticeRecord.unsent (r : NoticeRecord) : Bool := r.isSet && !r.sent

/-- The unsent kind with the lowest kind number, if there is one (R136, R183). -/
def State.firstUnsent (s : State) : Option NoticeKind := noticeKinds.find? (fun k => (s.notice k).unsent)

/-- A live lane state: neither DOWN nor DISABLED (R113); also what makes a lane eligible (R51). -/
def LaneState.live : LaneState → Bool
  | .disabled | .down => false
  | .active | .parking _ | .doze | .deep | .waking => true

/-- Lane `k` is live (R113), which is to say eligible (R51). -/
def State.live (s : State) (k : LaneId) : Bool := (s.lane k).state.live

/-- A notice waits for lane `k`: it is the manager lane and some set kind is unsent (R127). -/
def State.noticeWaits (s : State) (k : LaneId) : Bool := decide (k = s.manager) && s.firstUnsent.isSome

/-- Lane `k` is ACTIVE and idle (R127). -/
def State.idle (s : State) (k : LaneId) : Bool :=
  let l := s.lane k
  decide (l.state = .active) && l.queue.isEmpty && l.held.isEmpty && l.control.isEmpty && l.helloReply.isNone
    && !s.noticeWaits k && l.sending.isNone

end Sys2Proof.Machine
end

