-- ==== Sys2Proof/Machine/Power.lean ====
section
/-!
DEFINITION. Wakes and idleness: the start of a wake (R132), work to send on a lane (R134, R74), the idle and deep timers as every event leaves
them (R127), and the passing of time (section 11.7).
-/

namespace Sys2Proof.Machine

/-- A time setting in ms, as microseconds. -/
def millis (n : Nat) : Nat := n * 1000

/-- The wake of a lane in DOZE or DEEP (R132): WAKING with the wake timer of the state left, the deep timer stopped; `raise` says whether the bridge
wake signal is raised. A lane in any other state is left alone. -/
def Lane.wake (raise : Bool) (l : Lane) : Lane :=
  match l.state with
  | .doze => { l with state := .waking, wakeTimer := some Config.dozeWakeTime, deepTimer := none, bridgeWake := raise || l.bridgeWake }
  | .deep => { l with state := .waking, wakeTimer := some Config.deepWakeTime, deepTimer := none, bridgeWake := raise || l.bridgeWake }
  | _ => l

/-- Work to send on a lane, in each lane state (R134; for an enqueue, R74). -/
def Lane.workToSend (l : Lane) : Lane :=
  match l.state with
  | .parking _ => { l with wakePending := true }
  | .doze | .deep => l.wake true
  | .active | .waking | .down | .disabled => l

/-- Work to send on lane `k` (R134). -/
def State.workToSend (s : State) (k : LaneId) : State := s.modLane k Lane.workToSend

/-- The start of idleness: the idle timer takes the doze-after setting and the deep timer the deep-after setting (R127). A setting of 0 starts
nothing and leaves a running timer as it is (R116, R157; notes/assumptions/10.md). -/
def Lane.startIdle (l : Lane) : Lane :=
  if l.settings.dozeAfter = 0 then l
  else
    { l with
      idleTimer := some (millis l.settings.dozeAfter.toNat)
      deepTimer := if l.settings.deepAfter = 0 then l.deepTimer else some (millis (l.settings.deepAfter.toNat * 10)) }

/-- The idle timing of one lane at the end of an event (R127). `idleNow`: the lane is idle after the event; `starts`: it was not idle before the event, or the event
is a crossing on it. -/
def Lane.settleIdle (idleNow starts : Bool) (l : Lane) : Lane :=
  if l.state = .active then
    if idleNow then (if starts then l.startIdle else l) else { l with idleTimer := none, deepTimer := none }
  else { l with idleTimer := none }

/-- The end of every event: the idle timing of all lanes (R127). `crossed` is the lane on which the event is a crossing (R118), if any. -/
def settle (crossed : Option LaneId) (before after : State) : State :=
  after.mapLanes fun k l => l.settleIdle (after.idle k) (!before.idle k || decide (crossed = some k))

/-- The outcome of an event: its effect, then the idle timing (R127). -/
def event (crossed : Option LaneId) (s : State) (effect : State → State) : Host.Outcome State Fault Refusal :=
  .next (settle crossed s (effect s))

/-- One microsecond off a running timer. -/
def tickTimer (t : Option Nat) : Option Nat := t.map (· - 1)

/-- One microsecond passes for every timer (section 11.7). -/
def advance (s : State) : State :=
  { s.mapLanes (fun _ l =>
      { l with
        idleTimer := tickTimer l.idleTimer
        deepTimer := tickTimer l.deepTimer
        parkReplyTimer := tickTimer l.parkReplyTimer
        wakeTimer := tickTimer l.wakeTimer }) with
    nodes := mapRows (fun r => { r with quietTimer := tickTimer r.quietTimer }) s.nodes
    sweep := { s.sweep with visitTimer := tickTimer s.sweep.visitTimer } }

/-- The expiry of one of a lane's timers whose time has elapsed. -/
def Lane.due (k : LaneId) (l : Lane) : Option Instr :=
  if l.idleTimer = some 0 then some (.idleTimerExpiry k)
  else if l.deepTimer = some 0 then some (.deepTimerExpiry k)
  else if l.parkReplyTimer = some 0 then some (.parkReplyTimeout k l.hostWake)
  else if l.wakeTimer = some 0 then some (.wakeTimerExpiry k)
  else none

/-- The expiry of the first timer whose time has elapsed: quiet timers, then lane timers, then the visit timer (notes/assumptions/1.md). -/
def firstDue (s : State) : Option Instr :=
  match rowsWhere (fun r => decide (r.quietTimer = some 0)) s.nodes with
  | j :: _ => some (.quietTimerExpiry ⟨j / 64, by omega⟩ ⟨j % 64, by omega⟩)
  | [] =>
    match (List.finRange 8).findSome? (fun k => (s.lane k).due k) with
    | some c => some c
    | none => if s.sweep.visitTimer = some 0 then some .sweepVisit else none

end Sys2Proof.Machine
end

