-- ==== Sys2Proof/Machine/Flags.lean ====
section
/-!
DEFINITION. What an event reports beside its effect: the notice table (R181 to R183) and the counters (R188).
-/

namespace Sys2Proof.Machine

/-- A raise applied to a kind's record (R182). -/
def NoticeRecord.raised (detail : Nat) (r : NoticeRecord) : NoticeRecord :=
  if r.isSet then { r with repeats := min Config.maxRepeats (r.repeats + 1) }
  else { r with isSet := true, detail := detail, repeats := 0 }

/-- A block asks the Notice Unit to raise kind `k` with a detail (R182). The raise of a clear kind is work to send on the manager lane (R183). -/
def raiseNotice (k : NoticeKind) (detail : Nat) (s : State) : State :=
  let s' := s.setNotice k ((s.notice k).raised detail)
  if (s.notice k).isSet then s' else s'.workToSend s.manager

/-- An increase of a lane's counters. -/
def State.count (s : State) (k : LaneId) (f : LaneCounters → LaneCounters) : State :=
  s.modLane k fun l => { l with counters := f l.counters }

/-- EVENT frames sent, increased by 1 (R72). -/
def countSent (s : State) (k : LaneId) : State := s.count k fun c => { c with eventsSent := c.eventsSent + 1 }

/-- RETIRE frames received, increased by 1 (R88). -/
def countRetire (s : State) (k : LaneId) : State := s.count k fun c => { c with retiresReceived := c.retiresReceived + 1 }

/-- Stray retires, increased by 1 (R91). -/
def countStray (s : State) (k : LaneId) : State := s.count k fun c => { c with strayRetires := c.strayRetires + 1 }

/-- Credits overrun, increased by the excess, modulo 2^32 (R77, R188). -/
def countOverrun (s : State) (k : LaneId) (excess : Nat) : State :=
  s.count k fun c => { c with creditsOverrun := c.creditsOverrun + BitVec.ofNat 32 excess }

/-- Requests dropped, increased by 1 (R143, R145). -/
def countDropped (s : State) (k : LaneId) : State := s.count k fun c => { c with requestsDropped := c.requestsDropped + 1 }

/-- Lane frames discarded, increased by 1 (R197). -/
def countDiscarded (s : State) (k : LaneId) : State := s.count k fun c => { c with framesDiscarded := c.framesDiscarded + 1 }

/-- Parks declined, increased by 1 (R129, R130). -/
def countDeclined (s : State) (k : LaneId) : State := s.count k fun c => { c with parksDeclined := c.parksDeclined + 1 }

/-- Duplicates of a port, increased by 1 (R36, R39). -/
def countDuplicate (s : State) (p : Port) : State := s.modPort p fun r => { r with duplicates := r.duplicates + 1 }

/-- Inferred missed raises of a port, increased by `n`, modulo 2^32 (R37, R40, R188). -/
def countMissed (s : State) (p : Port) (n : Nat) : State :=
  s.modPort p fun r => { r with missedRaises := r.missedRaises + BitVec.ofNat 32 n }

end Sys2Proof.Machine
end

