-- ==== Sys2Proof/Machine/Delivery.lean ====
section
/-!
DEFINITION. The procedures by which a condition seeks, keeps and loses a lane: the check of a stored image (R3), quarantine at an offer or a promotion
(R20), enqueue (R65, R66), promotion (R12, R69), withdrawal (R14), the Lane Chooser's choice and placement (R53 to R57), offer (R11), and the release of
a binding (R89).

Within an event an entry can be, for a moment, in no lane structure and not yet settled (R14, R89). Such an entry stands as LATCHED after a withdrawal and
as IDLE after the removal of its binding; the rule that took it out gives its state in the same event.
-/

namespace Sys2Proof.Machine

/-- The check code computed over an image and an entry index (R3). -/
def checkCode (img : Image) (i : EntryIdx) : CheckCode := { image := img, index := i }

/-- The stored image of entry `i` matches its check code (R3). -/
def checkPasses (s : State) (i : EntryIdx) : Bool := decide ((s.entry i).code = checkCode (s.entry i).image i)

/-- Entry `i` takes a delivery state (R8). -/
def setDelivery (i : EntryIdx) (d : DeliveryState) (s : State) : State := s.modEntry i fun e => { e with state := d }

/-- Entry `i` takes a pending count (R9). -/
def setPending (i : EntryIdx) (n : Nat) (s : State) : State := s.modEntry i fun e => { e with pendingCount := n }

/-- Quarantine handling of an entry found in no lane structure, at an offer or a promotion: flag set, LATCHED with its pending count kept, TABLE_FAULT raised (R20). -/
def quarantineLoose (i : EntryIdx) (s : State) : State :=
  raiseNotice .tableFault i (s.modEntry i fun e => { e with quarantined := true, state := .latched })

/-- The lane's enqueue sequence after one more enqueue (R64). -/
def nextOrder (n : Nat) : Nat := if n = Config.enqueueTop then 0 else n + 1

/-- The place of a new item in a Delivery Queue: after every item of its own or a higher priority, before every item of lower priority (R66). -/
def insertItem (item : Item) (q : List Item) : List Item :=
  q.takeWhile (fun x => decide (item.priority ≤ x.priority)) ++ item :: q.dropWhile (fun x => decide (item.priority ≤ x.priority))

/-- Enqueue of entry `i` on lane `k`: an item with the stored vector and priority takes its place, the entry becomes QUEUED there, and a wake request is
passed to the Lane Controller (R65, R66, R74). -/
def enqueue (k : LaneId) (i : EntryIdx) (s : State) : State :=
  let img := (s.entry i).image
  let placed := s.modLane k fun l =>
    { l with
      queue := insertItem { entry := i, vector := img.vector, priority := img.priority, order := l.enqueueSeq } l.queue
      enqueueSeq := nextOrder l.enqueueSeq }
  (setDelivery i (.queued k) placed).workToSend k

/-- Takes held entries of lane `k` from the given list, oldest first, until one has been enqueued (R12). -/
def promoteFrom (k : LaneId) (waiting : List EntryIdx) (s : State) : State :=
  match waiting with
  | [] => s.modLane k fun l => { l with held := [] }
  | i :: rest =>
    if checkPasses s i then enqueue k i (s.modLane k fun l => { l with held := rest })
    else promoteFrom k rest (quarantineLoose i (s.modLane k fun l => { l with held := rest }))

/-- Promotion on lane `k`, made when an item has left its Delivery Queue (R69): not on a lane that is DOWN or DISABLED. -/
def promote (k : LaneId) (s : State) : State :=
  if s.live k then promoteFrom k (s.lane k).held s else s

/-- Withdrawal (R14): a QUEUED entry's item is removed and promotion follows on its lane; a HELD entry leaves the held list. The entry stands as LATCHED
until the withdrawing rule settles it (DESIGN CHOICE, notes/assumptions/12.md). Any other entry is left alone. -/
def withdraw (i : EntryIdx) (s : State) : State :=
  match (s.entry i).state with
  | .queued k =>
    promote k (setDelivery i .latched (s.modLane k fun l => { l with queue := l.queue.filter (fun x => decide (x.entry ≠ i)) }))
  | .held k =>
    setDelivery i .latched (s.modLane k fun l => { l with held := l.held.filter (fun j => decide (j ≠ i)) })
  | .idle | .latched | .stranded | .outstanding _ _ => s

/-- The entry is OUTSTANDING with a binding that names lane `k` (R85). -/
def Entry.boundTo (k : LaneId) (e : Entry) : Bool :=
  match e.state with
  | .outstanding j _ => decide (j = k)
  | _ => false

/-- The number of entries bound to lane `k` (R80). -/
def boundCount (s : State) (k : LaneId) : Nat := s.entries.toList.countP (Entry.boundTo k)

/-- The load of lane `k`: queue items, held entries and bound entries (R52). -/
def load (s : State) (k : LaneId) : Nat := (s.lane k).queue.length + (s.lane k).held.length + boundCount s k

/-- The first of the lanes with the least load (R55). -/
def leastLoaded (s : State) (ks : List LaneId) : Option LaneId :=
  match ks with
  | [] => none
  | k :: rest =>
    match leastLoaded s rest with
    | none => some k
    | some j => if load s k ≤ load s j then some k else some j

/-- The candidate list of a group: the eligible lanes of its preference list, in order (R53). -/
def candidates (s : State) (g : GroupId) : List LaneId := (s.group g).lanes.filter s.live

/-- The choice for one offer: the first candidate under PREFER (R54), the least loaded under BALANCE (R55), none when there is no candidate (R56). -/
def chooseLane (s : State) (g : GroupId) : Option LaneId :=
  match (s.group g).policy with
  | .prefer => (candidates s g).head?
  | .balance => leastLoaded s (candidates s g)

/-- Placement of entry `i` on the lane picked: enqueued when its queue holds fewer than 32 items, else at the tail of its held list (R57). -/
def place (k : LaneId) (i : EntryIdx) (s : State) : State :=
  if (s.lane k).queue.length < Config.queueDepth then enqueue k i s
  else setDelivery i (.held k) (s.modLane k fun l => { l with held := l.held ++ [i] })

/-- An offer of entry `i` (R11). -/
def offer (i : EntryIdx) (s : State) : State :=
  let e := s.entry i
  if e.quarantined then setDelivery i .latched s
  else if e.workMask = .masked then setDelivery i .latched s
  else if !checkPasses s i then quarantineLoose i s
  else
    match chooseLane s e.image.group with
    | some k => place k i s
    | none => raiseNotice .entryStranded i (setDelivery i .stranded s)

/-- Several offers in the order given, each seeing the earlier ones (R13). -/
def offerAll (is : List EntryIdx) (s : State) : State := is.foldl (fun t i => offer i t) s

/-- The binding of entry `i` is removed; the entry stands as IDLE until it is settled (R89; DESIGN CHOICE, notes/assumptions/12.md). -/
def unbind (i : EntryIdx) (s : State) : State := s.modEntry i fun e => { e with state := .idle, pendingCount := 0 }

/-- The release outcome of an entry whose binding has been removed (R89). -/
def settleRelease (i : EntryIdx) (s : State) : State :=
  if (s.entry i).line then offer i (setPending i 1 s) else setDelivery i .idle (setPending i 0 s)

/-- The release of the bindings of several entries: all of them removed first, then each entry settled, in the order given (R90, R125). -/
def releaseAll (is : List EntryIdx) (s : State) : State :=
  is.foldl (fun t i => settleRelease i t) (is.foldl (fun t i => unbind i t) s)

/-- Quarantine handling of a mismatch found by a sweep visit on an entry that is not quarantined (R20): the flag, then the delivery state, then the notice. -/
def quarantineFound (i : EntryIdx) (s : State) : State :=
  let flagged := s.modEntry i fun e => { e with quarantined := true }
  let settled :=
    match (s.entry i).state with
    | .queued _ | .held _ => setDelivery i .latched (withdraw i flagged)
    | .stranded => setDelivery i .latched flagged
    | .latched | .idle | .outstanding _ _ => flagged
  raiseNotice .tableFault i settled

/-- The STRANDED entries whose stored group satisfies `p`, in ascending index (R59, R60). -/
def strandedWhere (p : GroupId → Bool) (s : State) : List EntryIdx :=
  rowsWhere (fun e => decide (e.state = .stranded) && p e.image.group) s.entries

end Sys2Proof.Machine
end

