-- ==== Sys2Proof/Machine/Intake.lean ====
section
/-!
DEFINITION. Event intake on the field ports: the three line effects (R16 to R19), the reconciliation of RAISE, DROP and PRESENT (R33 to R43), and the
meanings of the field-frame commands and of a storage fault.
-/

namespace Sys2Proof.Machine

/-- The level of entry `i` recorded (R5). -/
def setLine (i : EntryIdx) (b : Bool) (s : State) : State := s.modEntry i fun e => { e with line := b }

/-- The frame's raise count recorded (R33). -/
def recordCount (i : EntryIdx) (c : RaiseCount) (s : State) : State := s.modEntry i fun e => { e with raiseCount := some c }

/-- `n` raises added to a pending count, saturating at 255 with COUNT_SATURATED (R16, R17). -/
def coalesce (i : EntryIdx) (n : Nat) (s : State) : State :=
  let sum := (s.entry i).pendingCount + n
  if Config.maxPending < sum then raiseNotice .countSaturated i (setPending i Config.maxPending s) else setPending i sum s

/-- An edge raise of `n` raises on an EDGE entry (R16). An EDGE entry is never OUTSTANDING; only the level would be recorded there. -/
def edgeRaise (i : EntryIdx) (n : Nat) (s : State) : State :=
  let t := setLine i true s
  match (s.entry i).state with
  | .idle => offer i (setPending i n t)
  | .latched | .stranded | .held _ | .queued _ => coalesce i n t
  | .outstanding _ _ => t

/-- A level assert on a LEVEL entry (R18). -/
def levelAssert (i : EntryIdx) (s : State) : State :=
  if (s.entry i).line then s
  else
    match (s.entry i).state with
    | .idle => offer i (setPending i 1 (setLine i true s))
    | .outstanding _ _ | .latched | .stranded | .held _ | .queued _ => setLine i true s

/-- A deassert (R19): a line already recorded deasserted changes nothing; a LEVEL condition not yet sent is withdrawn. -/
def deassert (i : EntryIdx) (s : State) : State :=
  let e := s.entry i
  if !e.line then s
  else
    let t := setLine i false s
    match e.workTrigger, e.state with
    | .level, .latched | .level, .stranded | .level, .held _ | .level, .queued _ =>
      setDelivery i .idle (setPending i 0 (withdraw i t))
    | .level, .idle | .level, .outstanding _ _ | .edge, _ => t

/-- `n` raises that a frame reports, as the effect the entry's trigger gives them: an edge raise of `n`, or a level assert (R35, R37, R38). -/
def raiseEffect (i : EntryIdx) (n : Nat) (s : State) : State :=
  match (s.entry i).workTrigger with
  | .edge => edgeRaise i n s
  | .level => levelAssert i s

/-- The difference, modulo 16, counted forward (R33). -/
def raiseDiff (r c : RaiseCount) : Nat := (c - r).toNat

/-- A RAISE, or a PRESENT line reported asserted, with a known count and a diff of 1 to 15: diff − 1 missed, diff raises applied (R37, R38, R42). -/
def knownRaise (p : Port) (i : EntryIdx) (c : RaiseCount) (diff : Nat) (s : State) : State :=
  raiseEffect i diff (recordCount i c (countMissed s p (diff - 1)))

/-- A DROP, or a PRESENT line reported deasserted, with a known count and a diff of 1 to 15: diff missed, an edge raise of diff for an EDGE entry, then a
deassert (R40, R43). -/
def knownDrop (p : Port) (i : EntryIdx) (c : RaiseCount) (diff : Nat) (s : State) : State :=
  let t := recordCount i c (countMissed s p diff)
  match (s.entry i).workTrigger with
  | .edge => deassert i (edgeRaise i diff t)
  | .level => deassert i t

/-- RAISE reconciled at its entry (R35 to R38). -/
def reconcileRaise (p : Port) (i : EntryIdx) (c : RaiseCount) (s : State) : State :=
  match (s.entry i).raiseCount with
  | none => raiseEffect i 1 (recordCount i c s)
  | some r => if raiseDiff r c = 0 then countDuplicate s p else knownRaise p i c (raiseDiff r c) s

/-- DROP reconciled at its entry (R39, R40). -/
def reconcileDrop (p : Port) (i : EntryIdx) (c : RaiseCount) (s : State) : State :=
  match (s.entry i).raiseCount with
  | none => deassert i (recordCount i c s)
  | some r =>
    if raiseDiff r c = 0 then (if (s.entry i).line then deassert i s else countDuplicate s p)
    else knownDrop p i c (raiseDiff r c) s

/-- One line of a PRESENT adopted on an UNKNOWN baseline (R41): an asserted EDGE line records level and count, and no raise is applied. -/
def adoptPresent (i : EntryIdx) (level : Bool) (c : RaiseCount) (s : State) : State :=
  let t := recordCount i c s
  if level then
    match (s.entry i).workTrigger with
    | .edge => setLine i true t
    | .level => levelAssert i t
  else t

/-- One line of a PRESENT reconciled at its entry (R41 to R43). -/
def reconcilePresent (p : Port) (i : EntryIdx) (level : Bool) (c : RaiseCount) (s : State) : State :=
  match (s.entry i).raiseCount with
  | none => adoptPresent i level c s
  | some r =>
    if raiseDiff r c = 0 then (if level then s else deassert i s)
    else if level then knownRaise p i c (raiseDiff r c) s
    else knownDrop p i c (raiseDiff r c) s

/-- Port `p` receives: its link is up and its transmitter is not sending (R27, R32). -/
def receives (s : State) (p : Port) : Bool := (s.port p).link && (s.port p).sending.isNone

/-- A frame of node `n` handed to the Presence Monitor (R100): PRESENT with its quiet timer started; NODE_ARRIVED from UNKNOWN or ABSENT; a PROBE still on the
send list removed. -/
def heard (p : Port) (n : Node) (s : State) : State :=
  let before := (s.node p n).presence
  let t := (s.modNode p n fun _ =>
      { presence := .present, quietTimer := some (millis (s.port p).quietTime.toNat), probeWaiting := false }).modPort p
    fun r => { r with sendList := r.sendList.filter (fun f => decide (f ≠ .probe n)) }
  match before with
  | .unknown | .absent => raiseNotice .nodeArrived (p * 64 + n : Nat) t
  | .present | .doubted => t

/-- An accepted frame (R31): counted, handed to the Presence Monitor, then reconciled. -/
def accepted (p : Port) (n : Node) (reconcile : State → State) (s : State) : State :=
  reconcile (heard p n (s.modPort p fun r => { r with framesAccepted := r.framesAccepted + 1 }))

/-- RAISE (R31, R35 to R38). A port that is not receiving hears nothing (R27, R32). -/
def execRaise (p : Port) (n : Node) (l : Line) (c : RaiseCount) (s : State) : Host.Outcome State Fault Refusal :=
  event none s fun s => if receives s p then accepted p n (reconcileRaise p (entryIndex p n l) c) s else s

/-- DROP (R31, R39, R40). -/
def execDrop (p : Port) (n : Node) (l : Line) (c : RaiseCount) (s : State) : Host.Outcome State Fault Refusal :=
  event none s fun s => if receives s p then accepted p n (reconcileDrop p (entryIndex p n l) c) s else s

/-- PRESENT (R31, R41 to R43): line 0 before line 1. -/
def execPresent (p : Port) (n : Node) (v0 : Bool) (c0 : RaiseCount) (v1 : Bool) (c1 : RaiseCount) (s : State) :
    Host.Outcome State Fault Refusal :=
  event none s fun s =>
    if receives s p then
      accepted p n
        (fun t => reconcilePresent p (entryIndex p n 1) v1 c1 (reconcilePresent p (entryIndex p n 0) v0 c0 t)) s
    else s

/-- FIELD_FRAME_DISCARDED (R28 to R30): a frame that fails its length, check or kind is counted and goes no further. -/
def execFieldFrameDiscarded (p : Port) (bytes : List Byte) (s : State) : Host.Outcome State Fault Refusal :=
  event none s fun s =>
    if receives s p && (judgeField p bytes).isNone then
      s.modPort p fun r => { r with framesDiscarded := r.framesDiscarded + 1 }
    else s

/-- STORAGE_FAULT (R3): the stored image or its check code changes; no working value and nothing of the dynamic part does. -/
def execStorageFault (i : EntryIdx) (f : StorageFault) (s : State) : Host.Outcome State Fault Refusal :=
  event none s fun s =>
    s.modEntry i fun e =>
      match f with
      | .image img => { e with image := img }
      | .code c => { e with code := c }

end Sys2Proof.Machine
end

