-- ==== Sys2Proof/Machine/Lanes.lean ====
section
/-!
DEFINITION. The Lane Controller as an event meets it: bring-up (R119), lane loss (R122 to R126), the effect of a host frame on the lane state (R130, R132,
R133), the park handshake (R128 to R131), and the meanings of the commands that arrive on a lane or come from its link, its wake input and its timers.
-/

namespace Sys2Proof.Machine

/-- The causes of a lane loss (R122). -/
inductive LossCause where
  | linkLost
  | closed
  | wakeTimeout
  | restarted
  | disabled
  deriving DecidableEq, Repr

/-- The code of a cause that raises LANE_DOWN (R122); CLOSED and DISABLED raise nothing. -/
def lossCode : LossCause → Option Nat
  | .linkLost => some 1
  | .wakeTimeout => some 3
  | .restarted => some 4
  | .closed | .disabled => none

/-- Every lane's staging read position becomes 0, as at every change of the staging list (R170). -/
def rewindReaders (s : State) : State := s.mapLanes fun _ l => { l with readPos := 0 }

/-- The staging list discarded: no record, no owner, every read position 0 (R126, R165, R170). -/
def clearStaging (s : State) : State := { rewindReaders s with staging := [], owner := none }

/-- The first part of a lane loss, on the lane itself (R123). -/
def lossOfLane (k : LaneId) (cause : LossCause) (s : State) : State :=
  s.modLane k fun l =>
    { l with
      state := if cause = .disabled then .disabled else .down
      link := if cause = .linkLost then false else l.link
      creditLimit := none, availableCredit := 0
      idleTimer := none, deepTimer := none, parkReplyTimer := none, wakeTimer := none
      wakePending := false, deepParkDue := false, bridgeWake := false
      helloReply := none, sending := none }

/-- The second part: queue items in queue order and then held entries in held order, each withdrawn and offered (R124). -/
def lossOfWork (k : LaneId) (s : State) : State :=
  ((s.lane k).queue.map Item.entry ++ (s.lane k).held).foldl (fun t i => offer i (withdraw i t)) s

/-- The third part: the lane's bindings released in ascending entry index (R125). -/
def lossOfBindings (k : LaneId) (s : State) : State := releaseAll (rowsWhere (Entry.boundTo k) s.entries) s

/-- The fourth part: control queue, request slot, a restart that waits for this lane, the staging list it owns, its read position (R126, R162, R170). -/
def lossOfManagement (k : LaneId) (s : State) : State :=
  let t := s.modLane k fun l => { l with control := [], slot := none, readPos := 0 }
  let u := if s.restart = .awaitingDone k then { t with restart := .due } else t
  if s.owner = some k then clearStaging u else u

/-- Lane loss of a live lane (R122): its four parts in order, then LANE_DOWN where the cause raises it. -/
def laneLoss (k : LaneId) (cause : LossCause) (s : State) : State :=
  let t := lossOfManagement k (lossOfBindings k (lossOfWork k (lossOfLane k cause s)))
  match lossCode cause with
  | some code => raiseNotice .laneDown (k * 16 + code : Nat) t
  | none => t

/-- A credit limit a HELLO may carry: 1 to 64 (R119). -/
def validLimit (limit : Byte) : Bool := decide (1 ≤ limit.toNat ∧ limit.toNat ≤ Config.maxCreditLimit)

/-- Bring-up (R119): HELLO_ACK in the hello reply, ACTIVE, credit set (R75), stranded entries whose group names the lane re-offered (R59). Unsent notices wait for
the lane, which is ACTIVE, without a wake (R183). -/
def bringUp (k : LaneId) (limit : Byte) (s : State) : State :=
  let t := s.modLane k fun l =>
    { l with state := .active, helloReply := some .ack, creditLimit := some limit.toNat, availableCredit := limit.toNat }
  offerAll (strandedWhere (fun g => decide (k ∈ (t.group g).lanes)) t) t

/-- A HELLO on a DOWN lane (R119). -/
def helloDown (k : LaneId) (limit : Byte) (s : State) : State :=
  if validLimit limit then bringUp k limit s else s.modLane k fun l => { l with helloReply := some (.nak limit) }

/-- The effect on the lane state of a host frame that no park handshake takes (R130, R132, R133): every live lane becomes ACTIVE. In PARKING a PARK already
granted counts as declined. -/
def frameWakes (k : LaneId) (s : State) : State :=
  match (s.lane k).state with
  | .parking _ =>
    let t := s.modLane k fun l =>
      { l with state := .active, parkReplyTimer := none, deepTimer := none, wakePending := false, deepParkDue := false }
    if (s.lane k).parkReplyTimer.isSome then countDeclined t k else t
  | .doze | .deep => s.modLane k fun l => { l with state := .active, deepTimer := none }
  | .waking => s.modLane k fun l => { l with state := .active, wakeTimer := none, bridgeWake := false }
  | .active | .down | .disabled => s

/-- A host frame other than HELLO and GOODBYE on lane `k` (R117, R118): nothing is received while the link is absent; on a lane that is not live it is discarded
uncounted; on a live lane the state effect comes first, and the frame is then taken by kind. -/
def hostFrame (k : LaneId) (take : State → State) (s : State) : State :=
  if (s.lane k).link && s.live k then take (frameWakes k s) else s

/-- The wake that a lane newly in DOZE or DEEP starts at once: for wake pending as for work to send (R129), otherwise for a host wake input that is high (R132). -/
def wakeOnEntry (pending hostWake : Bool) (l : Lane) : Lane :=
  if pending then l.wake true else if hostWake then l.wake false else l

/-- The deep park that was due while the lane was PARKING(DOZE), made when the lane is in DOZE and no wake has started (R131). -/
def deepParkIfDue (due : Bool) (l : Lane) : Lane :=
  if due ∧ l.state = .doze then { l with state := .parking .deep, wakePending := false } else l

/-- A PARK_ACK taken by the handshake (R129, R131): DOZE or DEEP, reply timer stopped, wake pending and deep park due read and cleared. -/
def parkAccepted (depth : Depth) (hostWake : Bool) (l : Lane) : Lane :=
  let entered := { l with
    state := match depth with | .doze => .doze | .deep => .deep
    deepTimer := match depth with | .doze => l.deepTimer | .deep => none
    parkReplyTimer := none, wakePending := false, deepParkDue := false }
  deepParkIfDue l.deepParkDue (wakeOnEntry l.wakePending hostWake entered)

/-- The deep timer of a lane that returns to DOZE from PARKING(DEEP): the deep-after time less the doze-after time (R129); a deep-after of 0 starts nothing
(notes/assumptions/10.md). That it is started, with the whole deep-after time, where doze-after has become 0 is the model's choice between R115 and R129, R131
(DESIGN CHOICE, notes/assumptions/21.md). -/
def deepRemainder (l : Lane) : Option Nat :=
  if l.settings.deepAfter = 0 then l.deepTimer
  else some (millis (l.settings.deepAfter.toNat * 10) - millis l.settings.dozeAfter.toNat)

/-- A PARK declined, by PARK_NAK or by the reply timer (R129): ACTIVE from PARKING(DOZE), DOZE from PARKING(DEEP). -/
def parkDeclined (depth : Depth) (hostWake : Bool) (l : Lane) : Lane :=
  let settled := { l with parkReplyTimer := none, wakePending := false, deepParkDue := false }
  match depth with
  | .doze => { settled with state := .active, deepTimer := none }
  | .deep => wakeOnEntry l.wakePending hostWake { settled with state := .doze, deepTimer := deepRemainder l }

/-- The depth of a lane that is PARKING with its PARK granted: a reply is then taken by the handshake (R129). -/
def Lane.parkGranted (l : Lane) : Option Depth :=
  match l.state, l.parkReplyTimer with
  | .parking d, some _ => some d
  | _, _ => none

/-- The lane on which a frame that arrives on lane `k` is a crossing (R118): `k` itself; none while its link is absent and it receives nothing (R117). -/
def received (k : LaneId) (s : State) : Option LaneId := if (s.lane k).link then some k else none

/-- HELLO (R119, R120): on a DOWN lane handled at once, on a live lane after lane loss with cause RESTARTED; discarded on a DISABLED lane. -/
def execHello (k : LaneId) (limit : Byte) (s : State) : Host.Outcome State Fault Refusal :=
  event (received k s) s fun s =>
    if (s.lane k).link then
      if s.live k then helloDown k limit (laneLoss k .restarted s)
      else if (s.lane k).state = .down then helloDown k limit s
      else s
    else s

/-- GOODBYE (R121): on a live lane, lane loss with cause CLOSED; discarded on any other. -/
def execGoodbye (k : LaneId) (s : State) : Host.Outcome State Fault Refusal :=
  event (received k s) s fun s => if (s.lane k).link && s.live k then laneLoss k .closed s else s

/-- The entries bound to lane `k` under vector `v`, in ascending index (R85, R88). -/
def matchingSet (s : State) (k : LaneId) (v : Byte) : List EntryIdx :=
  rowsWhere (fun e => decide (e.state = .outstanding k v)) s.entries

/-- A RETIRE at the Retirement Unit (R88, R90, R91). -/
def takeRetire (k : LaneId) (v : Byte) (s : State) : State :=
  let t := countRetire s k
  match matchingSet s k v with
  | [] => raiseNotice .strayRetire (k * 256 + v.toNat) (countStray t k)
  | is => releaseAll is t

/-- RETIRE (R88). -/
def execRetire (k : LaneId) (v : Byte) (s : State) : Host.Outcome State Fault Refusal :=
  event (received k s) s (hostFrame k (takeRetire k v))

/-- A CREDIT at the Lane Delivery (R76, R77). A count of 0 adds nothing and is no overrun. -/
def takeCredit (k : LaneId) (c : Byte) (s : State) : State :=
  let limit := (s.lane k).creditLimit.getD 0
  let sum := (s.lane k).availableCredit + c.toNat
  if c = 0 then s
  else if sum ≤ limit then s.modLane k fun l => { l with availableCredit := sum }
  else
    raiseNotice .creditOverrun k (countOverrun (s.modLane k fun l => { l with availableCredit := limit }) k (sum - limit))

/-- CREDIT (R76). -/
def execCredit (k : LaneId) (c : Byte) (s : State) : Host.Outcome State Fault Refusal :=
  event (received k s) s (hostFrame k (takeCredit k c))

/-- Places of the control queue taken: its frames, and one kept for an accepted request (R135, R145). -/
def placesTaken (l : Lane) : Nat := l.control.length + (if l.slot.isSome then 1 else 0)

/-- A frame placed at the tail of a lane's control queue, which is work to send (R134, R135). -/
def queueControl (k : LaneId) (r : Response) (s : State) : State :=
  (s.modLane k fun l => { l with control := l.control ++ [r] }).workToSend k

/-- A MGMT_REQUEST at the lane's request acceptance (R143, R145, R146): dropped, refused REFUSED_BUSY, or accepted into the slot. -/
def takeRequest (k : LaneId) (payload : List Byte) (s : State) : State :=
  match payload with
  | tag :: op :: args =>
    if Config.controlDepth ≤ placesTaken (s.lane k) then countDropped s k
    else if (s.lane k).slot.isSome then
      queueControl k { tag := tag, op := op, outcome := .refusedBusy, data := [] } s
    else s.modLane k fun l => { l with slot := some { tag := tag, op := op, args := args } }
  | _ => countDropped s k

/-- MGMT_REQUEST (R143, R145). -/
def execMgmtRequest (k : LaneId) (payload : List Byte) (s : State) : Host.Outcome State Fault Refusal :=
  event (received k s) s (hostFrame k (takeRequest k payload))

/-- PARK_ACK (R129): taken by the handshake when the PARK has been granted, otherwise a host frame that carries nothing (R130). -/
def execParkAck (k : LaneId) (hostWake : Bool) (s : State) : Host.Outcome State Fault Refusal :=
  event (received k s) s fun s =>
    if (s.lane k).link then
      let t := s.modLane k fun l => { l with hostWake := hostWake }
      match (s.lane k).parkGranted with
      | some d => t.modLane k (parkAccepted d hostWake)
      | none => hostFrame k id t
    else s

/-- PARK_NAK (R129): as PARK_ACK, and parks declined is increased. -/
def execParkNak (k : LaneId) (hostWake : Bool) (s : State) : Host.Outcome State Fault Refusal :=
  event (received k s) s fun s =>
    if (s.lane k).link then
      let t := s.modLane k fun l => { l with hostWake := hostWake }
      match (s.lane k).parkGranted with
      | some d => countDeclined (t.modLane k (parkDeclined d hostWake)) k
      | none => hostFrame k id t
    else s

/-- READY (R133): ends a wake, and in every other live state acts as a host frame that carries nothing (R118, R130, R132). -/
def execReady (k : LaneId) (s : State) : Host.Outcome State Fault Refusal :=
  event (received k s) s (hostFrame k id)

/-- LANE_FRAME_DISCARDED (R197): a frame that fails its length, check or kind is counted in every lane state in which the link is present. -/
def execLaneFrameDiscarded (k : LaneId) (bytes : List Byte) (s : State) : Host.Outcome State Fault Refusal :=
  if (s.lane k).link && (judgeLane k false bytes).isNone then event (received k s) s fun s => countDiscarded s k
  else event none s id

/-- LANE_LINK_LOST (R117): on a live lane, lane loss with cause LINK_LOST; on any other the hello reply and a frame being transmitted are discarded. -/
def execLaneLinkLost (k : LaneId) (s : State) : Host.Outcome State Fault Refusal :=
  event none s fun s =>
    if (s.lane k).link then
      if s.live k then laneLoss k .linkLost s
      else s.modLane k fun l => { l with link := false, helloReply := none, sending := none }
    else s

/-- LANE_LINK_GAINED (R117): the link state becomes present, and the lane state is unchanged. -/
def execLaneLinkGained (k : LaneId) (s : State) : Host.Outcome State Fault Refusal :=
  event none s fun s => s.modLane k fun l => { l with link := true }

/-- The effect of a raise of the host wake input, in each lane state (R130, R132, R133, R200). -/
def Lane.hostWakes (l : Lane) : Lane :=
  match l.state with
  | .parking _ => { l with wakePending := true }
  | .doze | .deep => l.wake false
  | .active | .waking | .down | .disabled => l

/-- HOST_WAKE_RAISED (R200): a lane whose link is absent ignores its wake input. -/
def execHostWakeRaised (k : LaneId) (s : State) : Host.Outcome State Fault Refusal :=
  event none s fun s =>
    s.modLane k fun l => if l.link then { l with hostWake := true }.hostWakes else { l with hostWake := true }

/-- IDLE_TIMER_EXPIRY (R128): PARKING(DOZE) with a PARK that waits; the deep timer goes on. A stopped timer does not expire. -/
def execIdleTimerExpiry (k : LaneId) (s : State) : Host.Outcome State Fault Refusal :=
  event none s fun s =>
    s.modLane k fun l =>
      if l.idleTimer.isSome ∧ l.state = .active then
        { l with state := .parking .doze, idleTimer := none, wakePending := false }
      else { l with idleTimer := none }

/-- DEEP_TIMER_EXPIRY (R131): PARKING(DEEP) from DOZE, deep park due in PARKING(DOZE). A stopped timer does not expire. -/
def execDeepTimerExpiry (k : LaneId) (s : State) : Host.Outcome State Fault Refusal :=
  event none s fun s =>
    s.modLane k fun l =>
      match l.deepTimer, l.state with
      | some _, .doze => { l with state := .parking .deep, deepTimer := none, wakePending := false }
      | some _, .parking .doze => { l with deepTimer := none, deepParkDue := true }
      | _, _ => { l with deepTimer := none }

/-- PARK_REPLY_TIMEOUT (R129): as a PARK_NAK, but no frame has arrived. A stopped timer does not expire. -/
def execParkReplyTimeout (k : LaneId) (hostWake : Bool) (s : State) : Host.Outcome State Fault Refusal :=
  event none s fun s =>
    match (s.lane k).parkGranted with
    | some d => countDeclined (s.modLane k fun l => parkDeclined d hostWake { l with hostWake := hostWake }) k
    | none => s.modLane k fun l => { l with parkReplyTimer := none }

/-- WAKE_TIMER_EXPIRY (R133): lane loss with cause WAKE_TIMEOUT. A stopped timer does not expire. -/
def execWakeTimerExpiry (k : LaneId) (s : State) : Host.Outcome State Fault Refusal :=
  event none s fun s =>
    if (s.lane k).wakeTimer.isSome ∧ (s.lane k).state = .waking then laneLoss k .wakeTimeout s
    else s.modLane k fun l => { l with wakeTimer := none }

end Sys2Proof.Machine
end

