-- ==== Sys2Proof/Machine/Presence.lean ====
section
/-!
DEFINITION. Node presence: absence (R102, R103), the quiet timer (R101), port link loss and gain (R105, R106), and the send list with its transmitter
(R99).
-/

namespace Sys2Proof.Machine

/-- Node absence at one entry (R103): the deassert, and the raise count UNKNOWN. -/
def absentLine (i : EntryIdx) (s : State) : State :=
  (deassert i s).modEntry i fun e => { e with raiseCount := none }

/-- Node absence of node `n` on port `p` (R102). R102 needs no order between the node's two entries; that line 0 is treated before line 1 is the model's choice
(DESIGN CHOICE, notes/assumptions/20.md). -/
def nodeAbsence (p : Port) (n : Node) (s : State) : State :=
  let t := (s.modNode p n fun _ => { presence := .absent, quietTimer := none, probeWaiting := false }).modPort p
    fun r => { r with sendList := r.sendList.filter (fun f => decide (f ≠ .probe n)) }
  raiseNotice .nodeLost (p * 64 + n : Nat) (absentLine (entryIndex p n 1) (absentLine (entryIndex p n 0) t))

/-- The node is PRESENT or DOUBTED. -/
def NodeRecord.known (r : NodeRecord) : Bool := decide (r.presence = .present ∨ r.presence = .doubted)

/-- Port link loss (R27, R105): send list emptied and the frames on the segment abandoned, absence of each known node in ascending order, then PORT_LINK. -/
def portLoss (p : Port) (s : State) : State :=
  let t := s.modPort p fun r => { r with link := false, sendList := [], sending := none }
  let lost := (List.finRange 64).foldl (fun u n => if (u.node p n).known then nodeAbsence p n u else u) t
  raiseNotice .portLink p lost

/-- A ROLLCALL placed at the tail of a send list that holds none (R99). -/
def withRollcall (frames : List PortFrame) : List PortFrame :=
  if .rollcall ∈ frames then frames else frames ++ [.rollcall]

/-- Port link gained (R27, R106): a ROLLCALL on the send list, then PORT_LINK. -/
def portGain (p : Port) (s : State) : State :=
  raiseNotice .portLink (4 + p : Nat) (s.modPort p fun r => { r with link := true, sendList := withRollcall r.sendList })

/-- The doubt of a PRESENT node whose quiet timer has expired (R101). -/
def doubt (p : Port) (n : Node) (s : State) : State :=
  (s.modNode p n fun _ =>
      { presence := .doubted, quietTimer := some (millis (s.port p).quietTime.toNat), probeWaiting := true }).modPort p
    fun r => { r with sendList := r.sendList ++ [.probe n] }

/-- PORT_LINK_LOSS (R105); a link that is down already gives no event. -/
def execPortLinkLoss (p : Port) (s : State) : Host.Outcome State Fault Refusal :=
  event none s fun s => if (s.port p).link then portLoss p s else s

/-- PORT_LINK_GAINED (R106); a link that is up already gives no event. -/
def execPortLinkGained (p : Port) (s : State) : Host.Outcome State Fault Refusal :=
  event none s fun s => if (s.port p).link then s else portGain p s

/-- QUIET_TIMER_EXPIRY (R101, R102); a stopped timer does not expire. -/
def execQuietTimerExpiry (p : Port) (n : Node) (s : State) : Host.Outcome State Fault Refusal :=
  event none s fun s =>
    if (s.node p n).quietTimer.isSome then
      match (s.node p n).presence with
      | .present => doubt p n s
      | .doubted => nodeAbsence p n s
      | .unknown | .absent => s.modNode p n fun r => { r with quietTimer := none }
    else s

/-- PROBE (R99): the transmitter, free and with its link up, takes the oldest frame of the send list, which is a PROBE. -/
def execProbe (p : Port) (s : State) : Host.Outcome State Fault Refusal :=
  event none s fun s =>
    match receives s p, (s.port p).sendList with
    | true, .probe n :: rest =>
      (s.modPort p fun r => { r with sendList := rest, sending := some (.probe n) }).modNode p n
        fun r => { r with probeWaiting := false }
    | _, _ => s

/-- ROLLCALL (R99): the transmitter, free and with its link up, takes the oldest frame of the send list, which is the ROLLCALL. -/
def execRollcall (p : Port) (s : State) : Host.Outcome State Fault Refusal :=
  event none s fun s =>
    match receives s p, (s.port p).sendList with
    | true, .rollcall :: rest => s.modPort p fun r => { r with sendList := rest, sending := some .rollcall }
    | _, _ => s

/-- PORT_TRANSMISSION_COMPLETE (R99): the transmitter is free again, and the port receives again (R32). -/
def execPortTransmissionComplete (p : Port) (s : State) : Host.Outcome State Fault Refusal :=
  event none s fun s => s.modPort p fun r => { r with sending := none }

end Sys2Proof.Machine
end

