-- ==== Sys2Proof/Machine/Operands.lean ====
section
/-!
DEFINITION. The operand forms of management requests and the result forms of their responses: the codes of R199 and chapter 11.4, the record images of
chapter 11.5, and the bytes of the frames the bridge sends (R195, R196, chapter 11.3).
-/

namespace Sys2Proof.Machine

/-- A one-byte operand below a bound, or out of range (R199). -/
def below (n : Nat) (b : Byte) : Option (Fin n) := if h : b.toNat < n then some ⟨b.toNat, h⟩ else none

/-- A two-byte entry index; 512 and above is out of range (R1, R199). -/
def entryOperand (hi lo : Byte) : Option EntryIdx := if h : ofTwoBytes hi lo < 512 then some ⟨ofTwoBytes hi lo, h⟩ else none

/-- The rights codes (R199). -/
def rightsOperand (b : Byte) : Option Rights :=
  match b.toNat with
  | 0 => some .none
  | 1 => some .observe
  | 2 => some .full
  | _ => none

/-- The enabled value (R199). -/
def enabledOperand (b : Byte) : Option Bool :=
  match b.toNat with
  | 0 => some false
  | 1 => some true
  | _ => none

/-- The mask of a steering-entry image: bits 7 to 6 (chapter 11.5). -/
def maskField (b : Byte) : Option Mask :=
  match b.toNat / 64 with
  | 0 => some .masked
  | 1 => some .opened
  | _ => none

/-- The trigger of a steering-entry image: bits 5 to 4 (chapter 11.5). -/
def triggerField (b : Byte) : Option Trigger :=
  match b.toNat / 16 % 4 with
  | 0 => some .edge
  | 1 => some .level
  | _ => none

/-- The priority of a steering-entry image: bits 1 to 0 (chapter 11.5). -/
def priorityField (b : Byte) : Priority := ⟨b.toNat % 4, Nat.mod_lt _ (by decide)⟩

/-- A steering-entry image of three bytes (R167, chapter 11.5); every vector passes. -/
def imageOperand (b0 grp vec : Byte) : Option Image :=
  match maskField b0, triggerField b0, below 16 grp with
  | some m, some t, some g => some { mask := m, trigger := t, vector := vec, priority := priorityField b0, group := g }
  | _, _, _ => none

/-- The eight lane slots of a group image, slot 0 in the high half of the first byte (chapter 11.5). -/
def laneSlots (b1 b2 b3 b4 : Byte) : List Nat :=
  [b1, b2, b3, b4].flatMap (fun b => [b.toNat / 16, b.toNat % 16])

/-- A lane slot's value as a lane. -/
def slotLane (n : Nat) : Option LaneId := if h : n < 8 then some ⟨n, h⟩ else none

/-- A group image of five bytes (R168, chapter 11.5): slots at or beyond the length are ignored. -/
def groupOperand (b0 b1 b2 b3 b4 : Byte) : Option Group :=
  let len := b0.toNat % 16
  let policy : Option Policy :=
    match b0.toNat / 64 with
    | 0 => some .prefer
    | 1 => some .balance
    | _ => none
  match policy, ((laneSlots b1 b2 b3 b4).take len).mapM slotLane with
  | some p, some lanes => if len ≤ 8 ∧ lanes.Nodup then some { policy := p, lanes := lanes } else none
  | _, _ => none

/-- A kind number as a notice kind: 1 to 10 (R186). -/
def kindOperand (b : Byte) : Option NoticeKind := if b = 0 then none else noticeKinds[b.toNat - 1]?

/-- The kinds a CLEAR_NOTICES names (R186, R199): a number n, then n kind bytes. -/
def kindsOperand (args : List Byte) : Option (List NoticeKind) :=
  match args with
  | n :: kinds => if n.toNat ≤ kinds.length then (kinds.take n.toNat).mapM kindOperand else none
  | [] => none

/-- The target of a CLEAR_COUNTERS (R160, R199). -/
inductive CounterTarget where
  | lane (k : LaneId)
  | port (p : Port)
  deriving DecidableEq, Repr

/-- The target of a CLEAR_COUNTERS: target kind, then number; any other kind is a target of neither (R199). -/
def counterOperand (kind num : Byte) : Option CounterTarget :=
  match kind.toNat with
  | 0 => (below 8 num).map .lane
  | 1 => (below 4 num).map .port
  | _ => none

/-- A complete set of lane settings in the ranges of R155. -/
def settingsOperand (rights doze deep enabled : Byte) : Option LaneSettings :=
  match rightsOperand rights, enabledOperand enabled with
  | some r, some e =>
    if doze ≠ 0 ∧ deep ≠ 0 ∧ deep.toNat * 10 ≤ doze.toNat then none
    else some { rights := r, dozeAfter := doze, deepAfter := deep, enabled := e }
  | _, _ => none

/-- The outcome codes, from 00h in the order of the table of R152 (chapter 11.4). -/
def outcomeCode : MgmtOutcome → Byte
  | .done => 0x00
  | .refusedBusy => 0x01
  | .refusedRights => 0x02
  | .refusedRange => 0x03
  | .refusedUnknown => 0x04
  | .refusedState => 0x05
  | .refusedStagingOwned => 0x06
  | .refusedStagingFull => 0x07
  | .refusedNoStaging => 0x08
  | .refusedValidation => 0x09
  | .refusedLastManager => 0x0A
  | .refusedSelf => 0x0B
  | .refusedInProgress => 0x0C

/-- The rights codes sent (R199). -/
def rightsCode : Rights → Byte
  | .none => 0
  | .observe => 1
  | .full => 2

/-- The lane state codes (R199). -/
def laneStateCode : LaneState → Byte
  | .disabled => 0
  | .down => 1
  | .active => 2
  | .parking .doze => 3
  | .parking .deep => 4
  | .doze => 5
  | .deep => 6
  | .waking => 7

/-- A link state: up or present is the first value of its table (R26, R114), down or absent the second (R199; notes/assumptions/8.md). -/
def linkCode (b : Bool) : Byte := if b then 0 else 1

/-- A wake signal: raised is the first value of its table (R114), lowered the second (R199; notes/assumptions/8.md). -/
def signalCode (b : Bool) : Byte := if b then 0 else 1

/-- The presence state codes, in the order of the table of R97. -/
def presenceCode : Presence → Byte
  | .unknown => 0
  | .present => 1
  | .doubted => 2
  | .absent => 3

/-- The delivery state codes (chapter 11.5). -/
def deliveryCode : DeliveryState → Byte
  | .idle => 0
  | .latched => 1
  | .stranded => 2
  | .held _ => 3
  | .queued _ => 4
  | .outstanding _ _ => 5

/-- A lane, or FFh for none (R199). -/
def laneOrNone : Option LaneId → Byte
  | some k => oneByte k
  | none => 0xFF

/-- The mask code of a steering-entry image. -/
def maskCode : Mask → Nat
  | .masked => 0
  | .opened => 1

/-- The trigger code of a steering-entry image. -/
def triggerCode : Trigger → Nat
  | .edge => 0
  | .level => 1

/-- The policy code of a group image. -/
def policyCode : Policy → Nat
  | .prefer => 0
  | .balance => 1

/-- The steering-entry image (chapter 11.5). -/
def imageBytes (img : Image) : List Byte :=
  [oneByte (maskCode img.mask * 64 + triggerCode img.trigger * 16 + img.priority), oneByte img.group, img.vector]

/-- Slot `n` of a group image; 0 at or beyond the length. -/
def slotOf (lanes : List LaneId) (n : Nat) : Nat :=
  match lanes[n]? with
  | some k => k
  | none => 0

/-- The group image (chapter 11.5). -/
def groupBytes (g : Group) : List Byte :=
  [oneByte (policyCode g.policy * 64 + g.lanes.length), oneByte (slotOf g.lanes 0 * 16 + slotOf g.lanes 1),
    oneByte (slotOf g.lanes 2 * 16 + slotOf g.lanes 3), oneByte (slotOf g.lanes 4 * 16 + slotOf g.lanes 5),
    oneByte (slotOf g.lanes 6 * 16 + slotOf g.lanes 7)]

/-- The lane of a delivery state, FFh for none (chapter 11.5). -/
def deliveryLane : DeliveryState → Byte
  | .held k | .queued k | .outstanding k _ => oneByte k
  | .idle | .latched | .stranded => 0xFF

/-- The binding vector of a delivery state, 00h for none (chapter 11.5). -/
def deliveryVector : DeliveryState → Byte
  | .outstanding _ v => v
  | _ => 0

/-- The raise count with its UNKNOWN bit (chapter 11.5). -/
def raiseCountBits : Option RaiseCount → Nat
  | some c => c.toNat
  | none => 32

/-- The dynamic image of an entry (chapter 11.5). -/
def dynamicBytes (e : Entry) : List Byte :=
  [deliveryCode e.state,
    oneByte ((if e.line then 128 else 0) + (if e.quarantined then 64 else 0) + raiseCountBits e.raiseCount),
    oneByte e.pendingCount, deliveryLane e.state, deliveryVector e.state]

/-- A staged record in a READ_STAGING portion (chapter 11.5). -/
def stagedBytes : StagedRecord → List Byte
  | .entry i img => oneByte (i / 256) :: oneByte i :: imageBytes img
  | .group g r => oneByte (128 + g) :: groupBytes r

/-- The record of a notice kind in a result: set, sent, first detail, repeats (R185, R186). -/
def noticeBytes (r : NoticeRecord) : List Byte :=
  yesNo r.isSet :: yesNo r.sent :: (twoBytes r.detail ++ [oneByte r.repeats])

/-- The seven lane counters in the order of the catalogue (section 10.4). -/
def counterBytes (c : LaneCounters) : List Byte :=
  [c.eventsSent, c.retiresReceived, c.strayRetires, c.creditsOverrun, c.requestsDropped, c.framesDiscarded,
    c.parksDeclined].flatMap fourBytes

/-- The bytes of a frame on a host lane (R196, chapters 11.2 to 11.4). -/
def LaneFrame.wire : LaneFrame → List Byte
  | .helloAck k => laneFrameBytes 0x11 (oneByte k :: (twoBytes Config.vendorCode ++ twoBytes Config.partCode ++ [oneByte Config.revision]))
  | .helloNak limit => laneFrameBytes 0x12 [limit]
  | .park .doze => laneFrameBytes 0x40 [0x01]
  | .park .deep => laneFrameBytes 0x40 [0x02]
  | .response r => laneFrameBytes 0x31 (r.tag :: r.op :: outcomeCode r.outcome :: r.data)
  | .notice k detail repeats => laneFrameBytes 0x38 (oneByte k.number :: (twoBytes detail ++ [oneByte repeats]))
  | .event v i prio trig count =>
    laneFrameBytes 0x20
      [v, oneByte (entryPort i * 64 + entryNode i : Nat),
        oneByte (triggerCode trig * 128 + prio * 16 + entryLine i : Nat), oneByte count]

/-- The bytes of a frame on a field port (R195, chapter 11.1). -/
def PortFrame.wire : PortFrame → List Byte
  | .probe n => fieldFrameBytes (oneByte (192 + n)) 0x01 0x00
  | .rollcall => fieldFrameBytes 0xFF 0x02 0x00

/-- What lane `k` is sending, as bytes on its wire; nothing when its transmitter is free. -/
def laneOutput (s : State) (k : LaneId) : List Byte :=
  match (s.lane k).sending with
  | some f => f.wire
  | none => []

/-- What field port `p` is sending, as bytes on its segment; nothing when its transmitter is free. -/
def portOutput (s : State) (p : Port) : List Byte :=
  match (s.port p).sending with
  | some f => f.wire
  | none => []

end Sys2Proof.Machine
end

