-- ==== Sys2Proof/Machine/Service.lean ====
section
/-!
DEFINITION. The service of management requests: the round-robin search (R147), the checks in their order (R148, R151), the response (R149), and the service of an
unknown operation.
-/

namespace Sys2Proof.Machine

/-- What a served operation comes to: the state after its effects, the outcome, the result data (R143, R148). -/
structure Reply where
  after : State
  outcome : MgmtOutcome
  data : List Byte

/-- A refusal with no result data; no state changes (R148). -/
def refuse (o : MgmtOutcome) (s : State) : Reply := { after := s, outcome := o, data := [] }

/-- DONE with its result data (R148). -/
def answer (data : List Byte) (s : State) : Reply := { after := s, outcome := .done, data := data }

/-- An operation whose operands are missing or out of range is refused REFUSED_RANGE (R148, step 3). -/
def withOperand {α : Type} (operand : Option α) (body : α → State → Reply) (s : State) : Reply :=
  match operand with
  | some a => body a s
  | none => refuse .refusedRange s

/-- The lanes in the order of the search: from the lane after the pointer round to the pointer (R147). -/
def searchOrder (pointer : LaneId) : List LaneId :=
  [pointer + 1, pointer + 2, pointer + 3, pointer + 4, pointer + 5, pointer + 6, pointer + 7, pointer]

/-- The request the engine serves next, with its lane; none while a restart is pending or every slot is empty (R147). -/
def nextRequest (s : State) : Option (LaneId × Request) :=
  if s.restart = .no then (searchOrder s.pointer).findSome? fun k => (s.lane k).slot.map fun r => (k, r) else none

/-- The rights allow the operation (R151). -/
def permitted (write : Bool) (r : Rights) : Bool :=
  match r with
  | .none => false
  | .observe => !write
  | .full => true

/-- The end of a service: the slot becomes empty and the response takes the place kept for it (R149). -/
def respond (k : LaneId) (r : Request) (reply : Reply) : State :=
  queueControl k { tag := r.tag, op := r.op, outcome := reply.outcome, data := reply.data }
    (reply.after.modLane k fun l => { l with slot := none })

/-- The service of lane `k`'s request `r`: the pointer moves, the rights are checked, the operation is carried out, the response is placed (R147 to R149). -/
def serviceOf (write : Bool) (body : LaneId → List Byte → State → Reply) (k : LaneId) (r : Request) (s : State) : State :=
  let t := { s with pointer := k }
  respond k r (if permitted write (s.lane k).settings.rights then body k r.args t else refuse .refusedRights t)

/-- The service event of the operation with this code. A search that reaches no request, or a request of another operation, is no service of this one. -/
def serve (code : Nat) (write : Bool) (body : LaneId → List Byte → State → Reply) (s : State) : State :=
  match nextRequest s with
  | some (k, r) => if r.op.toNat = code then serviceOf write body k r s else s
  | none => s

/-- The operation code names one of the 21 operations (chapter 11.4). -/
def knownOperation (op : Byte) : Bool := decide (1 ≤ op.toNat ∧ op.toNat ≤ 21)

/-- REFUSED_UNKNOWN (R148, step 1). -/
def execRefusedUnknown (s : State) : Host.Outcome State Fault Refusal :=
  event none s fun s =>
    match nextRequest s with
    | some (k, r) => if knownOperation r.op then s else respond k r (refuse .refusedUnknown { s with pointer := k })
    | none => s

/-- A one-byte operand below `n`, the first of the arguments. -/
def firstBelow (n : Nat) (args : List Byte) : Option (Fin n) :=
  match args with
  | b :: _ => below n b
  | [] => none

/-- An entry index, the first of the arguments. -/
def firstEntry (args : List Byte) : Option EntryIdx :=
  match args with
  | hi :: lo :: _ => entryOperand hi lo
  | _ => none

/-- A port and a node (R109). -/
def portAndNode (args : List Byte) : Option (Port × Node) :=
  match args with
  | p :: n :: _ =>
    match below 4 p, below 64 n with
    | some p, some n => some (p, n)
    | _, _ => none
  | _ => none

end Sys2Proof.Machine
end

