-- ==== Sys2Proof/Machine/Reads.lean ====
section
/-!
DEFINITION. The read operations of management (R151, R154): each answers from the state as it stands at its service event. Result data is laid out by R199 and
chapter 11.5. Only READ_STAGING moves anything: the reader's own read position (R170).
-/

namespace Sys2Proof.Machine

/-- The identity and the capacities (R153). -/
def identityBytes : List Byte :=
  twoBytes Config.vendorCode ++ twoBytes Config.partCode ++ [oneByte Config.revision, 4, 8] ++ twoBytes 512
    ++ [16, oneByte Config.queueDepth, oneByte Config.stagingDepth]

/-- IDENTIFY (R153). -/
def execIdentify (s : State) : Host.Outcome State Fault Refusal :=
  event none s <| serve 0x01 false fun k _ s =>
    answer (identityBytes ++ [oneByte k, rightsCode (s.lane k).settings.rights]) s

/-- READ_ENTRY (R25). -/
def execReadEntry (s : State) : Host.Outcome State Fault Refusal :=
  event none s <| serve 0x02 false fun _ args => withOperand (firstEntry args) fun i s =>
    answer (twoBytes i ++ imageBytes (s.entry i).image ++ dynamicBytes (s.entry i)) s

/-- READ_GROUP (R50). -/
def execReadGroup (s : State) : Host.Outcome State Fault Refusal :=
  event none s <| serve 0x03 false fun _ args => withOperand (firstBelow 16 args) fun g s =>
    answer (oneByte g :: groupBytes (s.group g)) s

/-- What READ_LANE returns of a lane (R80, R139), with the level of its host wake input. -/
def laneBytes (s : State) (k : LaneId) (hostWake : Bool) : List Byte :=
  let l := s.lane k
  [laneStateCode l.state, linkCode l.link, signalCode hostWake, signalCode l.bridgeWake, rightsCode l.settings.rights,
      l.settings.dozeAfter, l.settings.deepAfter, yesNo l.settings.enabled, oneByte l.control.length, yesNo l.slot.isSome,
      oneByte l.queue.length]
    ++ twoBytes l.held.length ++ twoBytes (boundCount s k)
    ++ [(match l.creditLimit with | some m => oneByte m | none => 0xFF), oneByte l.availableCredit]
    ++ counterBytes l.counters

/-- READ_LANE (R80, R139). -/
def execReadLane (hostWake : Bool) (s : State) : Host.Outcome State Fault Refusal :=
  event none s <| serve 0x04 false fun _ args => withOperand (firstBelow 8 args) fun k s =>
    answer (laneBytes s k hostWake) s

/-- The time left on a quiet timer, in whole ms rounded up, 1 to 255 while it runs, 0 when stopped (R109). -/
def remainingMs : Option Nat → Nat
  | some t => max 1 ((t + 999) / 1000)
  | none => 0

/-- READ_NODE (R109). -/
def execReadNode (s : State) : Host.Outcome State Fault Refusal :=
  event none s <| serve 0x05 false fun _ args => withOperand (portAndNode args) fun pn s =>
    let r := s.node pn.1 pn.2
    answer [presenceCode r.presence, yesNo r.quietTimer.isSome, oneByte (remainingMs r.quietTimer), yesNo r.probeWaiting] s

/-- READ_PORT (R47). -/
def execReadPort (s : State) : Host.Outcome State Fault Refusal :=
  event none s <| serve 0x06 false fun _ args => withOperand (firstBelow 4 args) fun p s =>
    let r := s.port p
    answer ([linkCode r.link, r.quietTime]
      ++ [r.framesAccepted, r.framesDiscarded, r.duplicates, r.missedRaises].flatMap fourBytes) s

/-- READ_NOTICES (R185). -/
def execReadNotices (s : State) : Host.Outcome State Fault Refusal :=
  event none s <| serve 0x07 false fun _ _ s =>
    answer (oneByte s.manager :: noticeKinds.flatMap (fun k => noticeBytes (s.notice k))) s

/-- The portion of the staging list that lane `k` reads next (R170). -/
def stagingPortion (s : State) (k : LaneId) : List StagedRecord :=
  (s.staging.drop (s.lane k).readPos).take Config.stagingPortion

/-- The read position of lane `k` after that portion (R170). -/
def nextReadPos (s : State) (k : LaneId) : Nat :=
  let pos := (s.lane k).readPos + (stagingPortion s k).length
  if s.staging.length ≤ pos then 0 else pos

/-- READ_STAGING (R170). -/
def execReadStaging (s : State) : Host.Outcome State Fault Refusal :=
  event none s <| serve 0x08 false fun k _ s =>
    answer ([laneOrNone s.owner, oneByte s.staging.length, oneByte (s.lane k).readPos] ++ (stagingPortion s k).flatMap stagedBytes)
      (s.modLane k fun l => { l with readPos := nextReadPos s k })

/-- READ_SWEEP (R193). -/
def execReadSweep (s : State) : Host.Outcome State Fault Refusal :=
  event none s <| serve 0x09 false fun _ _ s =>
    answer (yesNo s.sweep.running :: (twoBytes s.sweep.position ++ twoBytes s.sweep.faultsFound)) s

end Sys2Proof.Machine
end

