-- ==== Sys2Proof/Machine/Resets.lean ====
section
/-!
DEFINITION. The two resets of the whole part: the restart event (R163, with the effects R7, R64, R85, R107, R138, R165, R181, R189 give to each block's state) and the power-on
reset (R201).
-/

namespace Sys2Proof.Machine

/-- An entry at the restart event (R4, R7): the configuration part and the quarantine flag are kept. -/
def restartEntry (e : Entry) : Entry :=
  { e with state := .idle, line := false, raiseCount := none, pendingCount := 0 }

/-- A lane at the restart event (R64, R138, R144, R170, R188): a live lane becomes DOWN; link, settings and a frame being transmitted are kept. -/
def restartLane (l : Lane) : Lane :=
  { l with
    state := if l.state.live then .down else l.state
    helloReply := none, control := []
    idleTimer := none, deepTimer := none, parkReplyTimer := none, wakeTimer := none
    wakePending := false, deepParkDue := false, bridgeWake := false
    counters := .zero
    queue := [], held := [], creditLimit := none, availableCredit := 0, enqueueSeq := 0
    slot := none, readPos := 0 }

/-- A port at the restart event (R26, R107): counters 0, a ROLLCALL alone on the send list when the link is up; a frame being transmitted is completed. -/
def restartPort (r : PortRecord) : PortRecord :=
  { r with
    framesAccepted := 0, framesDiscarded := 0, duplicates := 0, missedRaises := 0
    sendList := if r.link then [.rollcall] else [] }

/-- The restart event (R163): the Group Table, the configuration parts, the lane settings, the quiet times and the manager lane are kept. -/
def restartAll (s : State) : State :=
  { s.mapLanes (fun _ l => restartLane l) with
    entries := mapRows restartEntry s.entries
    nodes := .replicate 256 .powerOn
    ports := mapRows restartPort s.ports
    pointer := 7
    restart := .no
    staging := []
    owner := none
    notices := .replicate 10 .clear
    sweep := .stopped }

/-- RESTART_EVENT (R162, R163): taken when a pending restart's DONE has completed or its lane has been lost. -/
def execRestartEvent (s : State) : Host.Outcome State Fault Refusal :=
  event none s fun s => if s.restart = .due then restartAll s else s

/-- The detectors read when RESET_N rises, on the lanes: link states and host wake inputs (R201). -/
def detectLanes (lanes wakes : List LaneId) (s : State) : State :=
  s.mapLanes fun k l => { l with link := decide (k ∈ lanes), hostWake := decide (k ∈ wakes) }

/-- The link gained events of the ports whose link is present at the release, in the order given (R27, R201); a port named again is up already. -/
def detectPorts (ports : List Port) (s : State) : State :=
  ports.foldl (fun t p => if (t.port p).link then t else portGain p t) s

/-- POWER_ON_RESET (R201): every block at its power-on values, then the detectors read. The commands that wait are not the block's state. -/
def execPowerOnReset (ports : List Port) (lanes wakes : List LaneId) (s : State) : Host.Outcome State Fault Refusal :=
  event none s fun s => detectPorts ports (detectLanes lanes wakes { State.reset with pending := s.pending })

end Sys2Proof.Machine
end

