-- ==== Sys2Proof/Machine/Settings.lean ====
section
/-!
DEFINITION. The other write operations of management: lane, port and manager settings (R155 to R159), counters (R160), notices (R186), FORCE_RETIRE (R93),
START_SWEEP (R190) and RESTART (R161); and the visits of the Table Sweep (R191, R192).
-/

namespace Sys2Proof.Machine

/-- The arguments of SET_LANE in the ranges of R155. -/
def setLaneOperand (args : List Byte) : Option (LaneId × LaneSettings) :=
  match args with
  | k :: r :: doze :: deep :: e :: _ =>
    match below 8 k, settingsOperand r doze deep e with
    | some k, some st => some (k, st)
    | _, _ => none
  | _ => none

/-- The lane has enabled yes and rights FULL (R156). -/
def LaneSettings.manages (st : LaneSettings) : Bool := st.enabled && decide (st.rights = .full)

/-- With the new settings of lane `j` in place, some lane keeps enabled yes and rights FULL (R156). -/
def keepsManager (s : State) (j : LaneId) (st : LaneSettings) : Bool :=
  (List.finRange 8).any fun k => (if k = j then st else (s.lane k).settings).manages

/-- The settings of lane `j` written, and what that does to its state (R116, R157). -/
def writeSettings (j : LaneId) (st : LaneSettings) (s : State) : State :=
  let t := s.modLane j fun l => { l with settings := st }
  match (s.lane j).settings.enabled, st.enabled with
  | true, false =>
    if s.live j then laneLoss j .disabled t
    else t.modLane j fun l => { l with state := .disabled, helloReply := none }
  | false, true => t.modLane j fun l => { l with state := if l.state = .disabled then .down else l.state }
  | true, true | false, false => t

/-- SET_LANE at its service on lane `k`: its refusals in their order, then the write (R156, R157). -/
def setLaneBody (k : LaneId) (a : LaneId × LaneSettings) (s : State) : Reply :=
  if a.1 = k ∧ a.2.enabled = false then refuse .refusedSelf s
  else if !keepsManager s a.1 a.2 then refuse .refusedLastManager s
  else answer [] (writeSettings a.1 a.2 s)

/-- SET_LANE (R155 to R157). -/
def execSetLane (s : State) : Host.Outcome State Fault Refusal :=
  event none s <| serve 0x0E true fun k args => withOperand (setLaneOperand args) (setLaneBody k)

/-- The arguments of SET_PORT: a port, and a quiet time of 1 to 255 ms (R158). -/
def setPortOperand (args : List Byte) : Option (Port × Byte) :=
  match args with
  | p :: q :: _ => if q = 0 then none else (below 4 p).map fun p => (p, q)
  | _ => none

/-- SET_PORT (R158). -/
def execSetPort (s : State) : Host.Outcome State Fault Refusal :=
  event none s <| serve 0x0F true fun _ args => withOperand (setPortOperand args) fun a s =>
    answer [] (s.modPort a.1 fun r => { r with quietTime := a.2 })

/-- Lane `k` made manager lane (R159): unsent kinds are then work to send on it (R183); naming the present manager changes nothing. -/
def writeManager (k : LaneId) (s : State) : State :=
  if k = s.manager then s
  else
    let t := { s with manager := k }
    if t.firstUnsent.isSome then t.workToSend k else t

/-- SET_MANAGER (R159). -/
def execSetManager (s : State) : Host.Outcome State Fault Refusal :=
  event none s <| serve 0x10 true fun _ args => withOperand (firstBelow 8 args) fun k s => answer [] (writeManager k s)

/-- The kinds of the list cleared (R181, R186). -/
def clearKinds (kinds : List NoticeKind) (s : State) : State := kinds.foldl (fun t k => t.setNotice k .clear) s

/-- CLEAR_NOTICES (R186): each named kind, once and in kind-number order, is reported and then cleared. -/
def execClearNotices (s : State) : Host.Outcome State Fault Refusal :=
  event none s <| serve 0x11 true fun _ args => withOperand (kindsOperand args) fun kinds s =>
    answer ((noticeKinds.filter (fun k => decide (k ∈ kinds))).flatMap fun k => noticeBytes (s.notice k)) (clearKinds kinds s)

/-- The arguments of CLEAR_COUNTERS (R160, R199). -/
def clearCountersOperand (args : List Byte) : Option CounterTarget :=
  match args with
  | kind :: num :: _ => counterOperand kind num
  | _ => none

/-- The counters of one lane or one port become 0 (R160). -/
def zeroCounters (target : CounterTarget) (s : State) : State :=
  match target with
  | .lane k => s.modLane k fun l => { l with counters := .zero }
  | .port p => s.modPort p fun r => { r with framesAccepted := 0, framesDiscarded := 0, duplicates := 0, missedRaises := 0 }

/-- CLEAR_COUNTERS (R160). -/
def execClearCounters (s : State) : Host.Outcome State Fault Refusal :=
  event none s <| serve 0x12 true fun _ args => withOperand (clearCountersOperand args) fun t s => answer [] (zeroCounters t s)

/-- FORCE_RETIRE at its service (R93): an entry that is not OUTSTANDING is refused; the answer carries the released binding and the state the entry took. -/
def forceRetireBody (i : EntryIdx) (s : State) : Reply :=
  match (s.entry i).state with
  | .outstanding k v =>
    let t := settleRelease i (unbind i s)
    answer [oneByte k, v, deliveryCode (t.entry i).state] t
  | _ => refuse .refusedState s

/-- FORCE_RETIRE (R93). -/
def execForceRetire (s : State) : Host.Outcome State Fault Refusal :=
  event none s <| serve 0x13 true fun _ args => withOperand (firstEntry args) forceRetireBody

/-- START_SWEEP at its service (R190). -/
def startSweepBody (s : State) : Reply :=
  if s.sweep.running then refuse .refusedInProgress s
  else answer [] { s with sweep := { running := true, position := 0, faultsFound := 0, visitTimer := some Config.visitTime } }

/-- START_SWEEP (R190). -/
def execStartSweep (s : State) : Host.Outcome State Fault Refusal :=
  event none s <| serve 0x14 true fun _ _ => startSweepBody

/-- RESTART (R161): DONE is placed and restart pending becomes yes; no other state changes. -/
def execRestart (s : State) : Host.Outcome State Fault Refusal :=
  event none s <| serve 0x15 true fun k _ s => answer [] { s with restart := .awaitingDone k }

/-- The check of a visit (R191, steps 1 and 2): a mismatch on an entry that is not quarantined is handled by R20 and counted. -/
def visitEntry (i : EntryIdx) (s : State) : State :=
  if checkPasses s i || (s.entry i).quarantined then s
  else
    let t := quarantineFound i s
    { t with sweep := { t.sweep with faultsFound := t.sweep.faultsFound + 1 } }

/-- The advance of the sweep after a visit, and its end after the visit of entry 511 (R191, steps 3 and 4; R192). -/
def advanceSweep (s : State) : State :=
  let position := s.sweep.position + 1
  if position < 512 then { s with sweep := { s.sweep with position := position, visitTimer := some Config.visitTime } }
  else
    raiseNotice .sweepDone s.sweep.faultsFound
      { s with sweep := { s.sweep with position := position, running := false, visitTimer := none } }

/-- SWEEP_VISIT (R191, R192); a stopped visit timer does not expire. -/
def execSweepVisit (s : State) : Host.Outcome State Fault Refusal :=
  event none s fun s =>
    if h : s.sweep.visitTimer.isSome ∧ s.sweep.running = true ∧ s.sweep.position < 512 then
      advanceSweep (visitEntry ⟨s.sweep.position, h.2.2⟩ s)
    else { s with sweep := { s.sweep with visitTimer := none } }

end Sys2Proof.Machine
end

