-- ==== Sys2Proof/Machine/Staging.lean ====
section
/-!
DEFINITION. Staged updates (chapter 9): staging a record (R167 to R169), DISCARD (R171), and COMMIT with its validation (R173), its order of application (R174) and the
settlement of each written entry (R175 to R178).
-/

namespace Sys2Proof.Machine

/-- Two records have the same target; entry 5 and group 5 are different targets (R165). -/
def sameTarget : StagedRecord → StagedRecord → Bool
  | .entry i _, .entry j _ => decide (i = j)
  | .group g _, .group h _ => decide (g = h)
  | .entry _ _, .group _ _ => false
  | .group _ _, .entry _ _ => false

/-- The staging list has an owner other than lane `k` (R169, R171, R172). -/
def ownedByOther (s : State) (k : LaneId) : Bool :=
  match s.owner with
  | some j => decide (j ≠ k)
  | none => false

/-- A record from lane `k` meets the staging list (R169). The result is its list position and the number of records. -/
def stage (k : LaneId) (r : StagedRecord) (s : State) : Reply :=
  if ownedByOther s k then refuse .refusedStagingOwned s
  else
    match s.staging.findIdx? (sameTarget r) with
    | some n => answer [oneByte n, oneByte s.staging.length] { rewindReaders s with staging := s.staging.set n r }
    | none =>
      if Config.stagingDepth ≤ s.staging.length then refuse .refusedStagingFull s
      else
        answer [oneByte s.staging.length, oneByte (s.staging.length + 1)]
          { rewindReaders s with
            staging := s.staging ++ [r]
            owner := if s.staging.isEmpty then some k else s.owner }

/-- The arguments of STAGE_ENTRY (R167). -/
def stageEntryOperand (args : List Byte) : Option StagedRecord :=
  match args with
  | hi :: lo :: b0 :: g :: v :: _ =>
    match entryOperand hi lo, imageOperand b0 g v with
    | some i, some img => some (.entry i img)
    | _, _ => none
  | _ => none

/-- The arguments of STAGE_GROUP (R168). -/
def stageGroupOperand (args : List Byte) : Option StagedRecord :=
  match args with
  | g :: b0 :: b1 :: b2 :: b3 :: b4 :: _ =>
    match below 16 g, groupOperand b0 b1 b2 b3 b4 with
    | some g, some r => some (.group g r)
    | _, _ => none
  | _ => none

/-- STAGE_ENTRY (R167, R169). -/
def execStageEntry (s : State) : Host.Outcome State Fault Refusal :=
  event none s <| serve 0x0A true fun k args => withOperand (stageEntryOperand args) (stage k)

/-- STAGE_GROUP (R168, R169). -/
def execStageGroup (s : State) : Host.Outcome State Fault Refusal :=
  event none s <| serve 0x0B true fun k args => withOperand (stageGroupOperand args) (stage k)

/-- DISCARD (R171): an empty list is refused before an owner is asked for. -/
def discardStaging (k : LaneId) (s : State) : Reply :=
  if s.staging.isEmpty then refuse .refusedNoStaging s
  else if ownedByOther s k then refuse .refusedStagingOwned s
  else answer [oneByte s.staging.length] (clearStaging s)

/-- DISCARD (R171). -/
def execDiscard (s : State) : Host.Outcome State Fault Refusal :=
  event none s <| serve 0x0D true fun k _ => discardStaging k

/-- Why a staged record would break a commit rule (R173). -/
inductive CommitFault where
  | vectorZero
  | groupEmpty
  | groupInUse
  deriving DecidableEq, Repr

/-- The reason codes (R199). -/
def commitFaultCode : CommitFault → Byte
  | .vectorZero => 1
  | .groupEmpty => 2
  | .groupInUse => 3

/-- The content a staged record has for group `g`, if it is one for that group. -/
def StagedRecord.groupContent (g : GroupId) : StagedRecord → Option Group
  | .group h r => if h = g then some r else none
  | .entry _ _ => none

/-- Group `g` in the post-commit Group Table (R173). -/
def postGroup (s : State) (g : GroupId) : Group :=
  (s.staging.findSome? (StagedRecord.groupContent g)).getD (s.group g)

/-- Entry `i` is the target of some staged record. -/
def entryStaged (s : State) (i : EntryIdx) : Bool :=
  s.staging.any fun r => match r with | .entry j _ => decide (j = i) | .group _ _ => false

/-- Some entry that is not staged is OPEN by its working mask and names group `g` in its stored image (R173). -/
def groupInUse (s : State) (g : GroupId) : Bool :=
  (rowsWhere (fun e => decide (e.workMask = .opened ∧ e.image.group = g)) s.entries).any fun i => !entryStaged s i

/-- The test of one staged record against the post-commit Group Table (R173). -/
def recordFault (s : State) : StagedRecord → Option CommitFault
  | .entry _ img =>
    if img.mask = .opened then
      if img.vector = 0 then some .vectorZero
      else if (postGroup s img.group).lanes.isEmpty then some .groupEmpty
      else none
    else none
  | .group g r => if r.lanes.isEmpty && groupInUse s g then some .groupInUse else none

/-- The first failure in list order, with its list position, among records that begin at position `n` (R173). -/
def firstFault (s : State) (n : Nat) : List StagedRecord → Option (Nat × CommitFault)
  | [] => none
  | r :: rest =>
    match recordFault s r with
    | some f => some (n, f)
    | none => firstFault s (n + 1) rest

/-- The pending count of a written entry by its old and new trigger (R177). -/
def convertCount (old new : Trigger) (line : Bool) (count : Nat) : Nat :=
  match old, new with
  | .edge, .level => if line then 1 else 0
  | .edge, .edge | .level, .level | .level, .edge => count

/-- A written entry that was pending: its count converted, and an offer unless the count is 0 (R176, R177). -/
def settlePending (i : EntryIdx) (count : Nat) (s : State) : State :=
  if count = 0 then setDelivery i .idle (setPending i 0 s) else offer i (setPending i count s)

/-- The write of an entry record (R175): stored image, fresh check code, working mask and trigger, quarantine cleared. -/
def writeEntry (i : EntryIdx) (img : Image) (s : State) : State :=
  s.modEntry i fun e =>
    { e with image := img, code := checkCode img i, workMask := img.mask, workTrigger := img.trigger, quarantined := false }

/-- An entry record applied: the write, then the settlement by the delivery state the entry had before it (R175 to R178). -/
def applyEntry (i : EntryIdx) (img : Image) (s : State) : State :=
  let e := s.entry i
  let t := writeEntry i img s
  let count := convertCount e.workTrigger img.trigger e.line e.pendingCount
  match e.state with
  | .idle =>
    if img.trigger = .level ∧ img.mask = .opened ∧ e.line = true then offer i (setPending i 1 t) else t
  | .latched | .stranded => settlePending i count t
  | .queued _ | .held _ => settlePending i count (withdraw i t)
  | .outstanding _ _ =>
    match img.trigger with
    | .level => t
    | .edge => settleRelease i (unbind i t)

/-- Step 1 of a commit for one record (R174). -/
def applyGroupRecord (r : StagedRecord) (s : State) : State :=
  match r with
  | .group g c => s.setGroup g c
  | .entry _ _ => s

/-- Step 2 of a commit for one record (R174). -/
def applyEntryRecord (r : StagedRecord) (s : State) : State :=
  match r with
  | .entry i img => applyEntry i img s
  | .group _ _ => s

/-- The staging list holds a record for group `g`: the commit writes it (R60). -/
def groupWritten (s : State) (g : GroupId) : Bool :=
  s.staging.any fun r => match r with | .group h _ => decide (h = g) | .entry _ _ => false

/-- The commit of a staging list that has passed validation (R174): groups, entries, stranded groups, the list. -/
def applyCommit (s : State) : State :=
  let grouped := s.staging.foldl (fun t r => applyGroupRecord r t) s
  let written := s.staging.foldl (fun t r => applyEntryRecord r t) grouped
  let stranded := (strandedWhere (groupWritten s) written).filter fun i => !entryStaged s i
  clearStaging (offerAll stranded written)

/-- COMMIT: its refusals in their order (R172), the validation (R173), the application (R174). -/
def commitStaging (k : LaneId) (s : State) : Reply :=
  if s.staging.isEmpty then refuse .refusedNoStaging s
  else if ownedByOther s k then refuse .refusedStagingOwned s
  else
    match firstFault s 0 s.staging with
    | some (n, f) => { after := s, outcome := .refusedValidation, data := [oneByte n, commitFaultCode f] }
    | none => answer [oneByte s.staging.length] (applyCommit s)

/-- COMMIT (R172 to R174). -/
def execCommit (s : State) : Host.Outcome State Fault Refusal :=
  event none s <| serve 0x0C true fun k _ => commitStaging k

end Sys2Proof.Machine
end

