-- ==== Sys2Proof/Machine/Transmit.lean ====
section
/-!
DEFINITION. The lane transmitter (R136, R137): which frame it grants, what each grant does, and the completion of a frame.
-/

namespace Sys2Proof.Machine

/-- The ranks of the transmitter (R136), first to last. -/
inductive Rank where
  | helloReply
  | park
  | control
  | notice
  | event
  deriving DecidableEq, Repr

/-- The rank has a frame sendable in the current lane state (R136). The link is present. Of a hello reply the table and the text of R136 say different things: in DOZE, DEEP and
WAKING the model follows the table, which makes it sendable, and in DISABLED the text, by which nothing is (DESIGN CHOICE, notes/assumptions/22.md; no run has a reply waiting in
these states). -/
def sendable (s : State) (k : LaneId) (r : Rank) : Bool :=
  let l := s.lane k
  match r with
  | .helloReply => l.helloReply.isSome && decide (l.state ≠ .disabled)
  | .park => (match l.state with | .parking _ => true | _ => false) && l.parkReplyTimer.isNone
  | .control => decide (l.state = .active) && !l.control.isEmpty
  | .notice => decide (l.state = .active) && s.noticeWaits k
  | .event => decide (l.state = .active) && decide (1 ≤ l.availableCredit) && !l.queue.isEmpty

/-- The rank the transmitter of lane `k` grants now: the first with a sendable frame, when the link is present and no frame is being transmitted (R117, R136). -/
def granted (s : State) (k : LaneId) : Option Rank :=
  if (s.lane k).link && (s.lane k).sending.isNone then
    [Rank.helloReply, .park, .control, .notice, .event].find? (sendable s k)
  else none

/-- A frame handed to the transmitter of lane `k` (R136). -/
def startSending (k : LaneId) (f : LaneFrame) (s : State) : State := s.modLane k fun l => { l with sending := some f }

/-- The frame of a hello reply (R119, chapter 11.3). -/
def helloFrame (k : LaneId) : HelloReply → LaneFrame
  | .ack => .helloAck k
  | .nak limit => .helloNak limit

/-- HELLO_REPLY_GRANT (R136): the hello reply is emptied. -/
def execHelloReplyGrant (k : LaneId) (s : State) : Host.Outcome State Fault Refusal :=
  event none s fun s =>
    match granted s k, (s.lane k).helloReply with
    | some .helloReply, some r => startSending k (helloFrame k r) (s.modLane k fun l => { l with helloReply := none })
    | _, _ => s

/-- PARK_GRANT (R128): the park reply timer is started with 2 ms. -/
def execParkGrant (k : LaneId) (s : State) : Host.Outcome State Fault Refusal :=
  event none s fun s =>
    match granted s k, (s.lane k).state with
    | some .park, .parking d =>
      startSending k (.park d) (s.modLane k fun l => { l with parkReplyTimer := some Config.parkReplyTime })
    | _, _ => s

/-- MGMT_RESPONSE_GRANT (R135, R136): the oldest frame leaves the control queue. -/
def execMgmtResponseGrant (k : LaneId) (s : State) : Host.Outcome State Fault Refusal :=
  event none s fun s =>
    match granted s k, (s.lane k).control with
    | some .control, r :: rest => startSending k (.response r) (s.modLane k fun l => { l with control := rest })
    | _, _ => s

/-- NOTICE_GRANT (R184): on the manager lane, the unsent kind with the lowest number is marked sent. -/
def execNoticeGrant (s : State) : Host.Outcome State Fault Refusal :=
  event none s fun s =>
    match granted s s.manager, s.firstUnsent with
    | some .notice, some kind =>
      let r := s.notice kind
      startSending s.manager (.notice kind r.detail r.repeats) (s.setNotice kind { r with sent := true })
    | _, _ => s

/-- The EVENT frame formed from an item and the entry it names (R71). -/
def eventFrame (s : State) (item : Item) : LaneFrame :=
  let e := s.entry item.entry
  .event item.vector item.entry item.priority e.workTrigger (match e.workTrigger with | .edge => e.pendingCount | .level => 1)

/-- The state an entry takes when its item has been sent on lane `k` (R72). -/
def sentState (k : LaneId) (item : Item) (trigger : Trigger) : DeliveryState :=
  match trigger with
  | .edge => .idle
  | .level => .outstanding k item.vector

/-- The send of the head item of lane `k` (R71, R72): credit, item, entry, counter, promotion, in this order. -/
def sendHead (k : LaneId) (item : Item) (rest : List Item) (s : State) : State :=
  let spent := s.modLane k fun l => { l with availableCredit := l.availableCredit - 1, queue := rest }
  let settled := setDelivery item.entry (sentState k item (s.entry item.entry).workTrigger) (setPending item.entry 0 spent)
  startSending k (eventFrame s item) (promote k (countSent settled k))

/-- SEND (R70 to R72): the grant of the EVENT slot. -/
def execSend (k : LaneId) (s : State) : Host.Outcome State Fault Refusal :=
  event none s fun s =>
    match granted s k, (s.lane k).queue with
    | some .event, item :: rest => sendHead k item rest s
    | _, _ => s

/-- The frame is the DONE response of a RESTART (R162). -/
def isRestartDone : LaneFrame → Bool
  | .response r => decide (r.op = 0x15 ∧ r.outcome = .done)
  | _ => false

/-- TRANSMISSION_COMPLETE (R137): the transmitter is free; the completion of the RESTART response makes the restart event due (R162). -/
def execTransmissionComplete (k : LaneId) (s : State) : Host.Outcome State Fault Refusal :=
  event none s fun s =>
    match (s.lane k).sending with
    | some f =>
      let t := s.modLane k fun l => { l with sending := none }
      if s.restart = .awaitingDone k ∧ isRestartDone f then { t with restart := .due } else t
    | none => s

end Sys2Proof.Machine
end

