-- ==== Sys2Proof/Machine/Dispatch.lean ====
section
/-!
DEFINITION. Which meaning each command has: one arm per row of spec/opcode_table.json.
-/

namespace Sys2Proof.Machine

/-- The effect of a command on everything but the queue of waiting commands. -/
def exec (i : Instr) (s : State) : Host.Outcome State Fault Refusal :=
  match i with
  | .raise p n l count => Sys2Proof.Machine.execRaise p n l count s
  | .drop p n l count => Sys2Proof.Machine.execDrop p n l count s
  | .present p n level0 count0 level1 count1 => Sys2Proof.Machine.execPresent p n level0 count0 level1 count1 s
  | .fieldFrameDiscarded p bytes => Sys2Proof.Machine.execFieldFrameDiscarded p bytes s
  | .portLinkLoss p => Sys2Proof.Machine.execPortLinkLoss p s
  | .portLinkGained p => Sys2Proof.Machine.execPortLinkGained p s
  | .quietTimerExpiry p n => Sys2Proof.Machine.execQuietTimerExpiry p n s
  | .probe p => Sys2Proof.Machine.execProbe p s
  | .rollcall p => Sys2Proof.Machine.execRollcall p s
  | .storageFault e f => Sys2Proof.Machine.execStorageFault e f s
  | .hello k limit => Sys2Proof.Machine.execHello k limit s
  | .goodbye k => Sys2Proof.Machine.execGoodbye k s
  | .retire k vector => Sys2Proof.Machine.execRetire k vector s
  | .credit k count => Sys2Proof.Machine.execCredit k count s
  | .mgmtRequest k payload => Sys2Proof.Machine.execMgmtRequest k payload s
  | .parkAck k hostWake => Sys2Proof.Machine.execParkAck k hostWake s
  | .parkNak k hostWake => Sys2Proof.Machine.execParkNak k hostWake s
  | .ready k => Sys2Proof.Machine.execReady k s
  | .laneFrameDiscarded k bytes => Sys2Proof.Machine.execLaneFrameDiscarded k bytes s
  | .laneLinkLost k => Sys2Proof.Machine.execLaneLinkLost k s
  | .laneLinkGained k => Sys2Proof.Machine.execLaneLinkGained k s
  | .hostWakeRaised k => Sys2Proof.Machine.execHostWakeRaised k s
  | .idleTimerExpiry k => Sys2Proof.Machine.execIdleTimerExpiry k s
  | .deepTimerExpiry k => Sys2Proof.Machine.execDeepTimerExpiry k s
  | .parkReplyTimeout k hostWake => Sys2Proof.Machine.execParkReplyTimeout k hostWake s
  | .wakeTimerExpiry k => Sys2Proof.Machine.execWakeTimerExpiry k s
  | .helloReplyGrant k => Sys2Proof.Machine.execHelloReplyGrant k s
  | .parkGrant k => Sys2Proof.Machine.execParkGrant k s
  | .mgmtResponseGrant k => Sys2Proof.Machine.execMgmtResponseGrant k s
  | .noticeGrant => Sys2Proof.Machine.execNoticeGrant s
  | .send k => Sys2Proof.Machine.execSend k s
  | .transmissionComplete k => Sys2Proof.Machine.execTransmissionComplete k s
  | .restartEvent => Sys2Proof.Machine.execRestartEvent s
  | .identify => Sys2Proof.Machine.execIdentify s
  | .readEntry => Sys2Proof.Machine.execReadEntry s
  | .readGroup => Sys2Proof.Machine.execReadGroup s
  | .readLane hostWake => Sys2Proof.Machine.execReadLane hostWake s
  | .readNode => Sys2Proof.Machine.execReadNode s
  | .readPort => Sys2Proof.Machine.execReadPort s
  | .readNotices => Sys2Proof.Machine.execReadNotices s
  | .readStaging => Sys2Proof.Machine.execReadStaging s
  | .readSweep => Sys2Proof.Machine.execReadSweep s
  | .stageEntry => Sys2Proof.Machine.execStageEntry s
  | .stageGroup => Sys2Proof.Machine.execStageGroup s
  | .commit => Sys2Proof.Machine.execCommit s
  | .discard => Sys2Proof.Machine.execDiscard s
  | .setLane => Sys2Proof.Machine.execSetLane s
  | .setPort => Sys2Proof.Machine.execSetPort s
  | .setManager => Sys2Proof.Machine.execSetManager s
  | .clearNotices => Sys2Proof.Machine.execClearNotices s
  | .clearCounters => Sys2Proof.Machine.execClearCounters s
  | .forceRetire => Sys2Proof.Machine.execForceRetire s
  | .startSweep => Sys2Proof.Machine.execStartSweep s
  | .restart => Sys2Proof.Machine.execRestart s
  | .sweepVisit => Sys2Proof.Machine.execSweepVisit s
  | .powerOnReset ports lanes wakes => Sys2Proof.Machine.execPowerOnReset ports lanes wakes s
  | .refusedUnknown => Sys2Proof.Machine.execRefusedUnknown s
  | .portTransmissionComplete p => Sys2Proof.Machine.execPortTransmissionComplete p s

end Sys2Proof.Machine
end

