-- ==== Sys2Proof/Machine/Step.lean ====
section
/-!
DEFINITION. One step of the bridge: the command at the front of the queue, or, when none waits, the passing of time.
-/

namespace Sys2Proof.Machine

/-- One step: the command at the front of the queue is taken and run with the queue's rest. On an empty queue time passes: the expiry of a timer whose time has elapsed is
taken, and otherwise one microsecond goes by (DESIGN CHOICE, notes/assumptions/1.md). -/
def step (s : State) : Host.Outcome State Fault Refusal :=
  match s.pending with
  | c :: rest => exec c { s with pending := rest }
  | [] =>
    match firstDue s with
    | some c => exec c s
    | none => .next (advance s)

/-- The command that a table word spells, put at the front of the queue; the state unchanged where the word spells none, as every word does on this
hardware, whose table rows have no bits. -/
def State.withFetchWord (s : State) (nbits w : Nat) : State :=
  match decodeTableWord nbits w with
  | some c => { s with pending := c :: s.pending }
  | none => s

end Sys2Proof.Machine
end

