-- ==== Sys2Proof/Safety.lean ====
section
/-!
DEFINITION. What a sound state of the bridge is: the laws the manual states of the whole part, one predicate each, in the terms the statements use.
-/

namespace Sys2Proof.Machine

/-- A lane without its idle timing: the idle timer, and the deep timer of an ACTIVE lane, which R127 sets anew at the end of every event. -/
def Lane.still (l : Lane) : Lane :=
  { l with idleTimer := none, deepTimer := if l.state = .active then none else l.deepTimer }

/-- A state without its lanes' idle timing. Two states with the same still state agree in everything else. -/
def State.still (s : State) : State := s.mapLanes fun _ l => l.still

/-- The command is the expiry of a timer of `s` that has no time left (section 11.7). PARK_REPLY_TIMEOUT carries the host wake input as last seen
(notes/assumptions/3.md). -/
def State.elapsed (s : State) : Instr → Prop
  | .quietTimerExpiry p n => (s.node p n).quietTimer = some 0
  | .idleTimerExpiry k => (s.lane k).idleTimer = some 0
  | .deepTimerExpiry k => (s.lane k).deepTimer = some 0
  | .parkReplyTimeout k w => (s.lane k).parkReplyTimer = some 0 ∧ w = (s.lane k).hostWake
  | .wakeTimerExpiry k => (s.lane k).wakeTimer = some 0
  | .sweepVisit => s.sweep.visitTimer = some 0
  | _ => False

/-- The port on whose segment the command is the arrival of a frame (R28 to R31); none for any other command. -/
def fieldArrival : Instr → Option Port
  | .raise p _ _ _ | .drop p _ _ _ | .present p _ _ _ _ _ | .fieldFrameDiscarded p _ => some p
  | _ => none

/-- The lane on which the command is the arrival of a frame (R118, R197); none for any other command. -/
def laneArrival : Instr → Option LaneId
  | .hello k _ | .goodbye k | .retire k _ | .credit k _ | .mgmtRequest k _ | .parkAck k _ | .parkNak k _
  | .ready k | .laneFrameDiscarded k _ => some k
  | _ => none

/-- The operation code of a service command and whether the operation is a write (chapter 11.4, R151); none for any other command. -/
def serviceCode : Instr → Option (Nat × Bool)
  | .identify => some (0x01, false)
  | .readEntry => some (0x02, false)
  | .readGroup => some (0x03, false)
  | .readLane _ => some (0x04, false)
  | .readNode => some (0x05, false)
  | .readPort => some (0x06, false)
  | .readNotices => some (0x07, false)
  | .readStaging => some (0x08, false)
  | .readSweep => some (0x09, false)
  | .stageEntry => some (0x0A, true)
  | .stageGroup => some (0x0B, true)
  | .commit => some (0x0C, true)
  | .discard => some (0x0D, true)
  | .setLane => some (0x0E, true)
  | .setPort => some (0x0F, true)
  | .setManager => some (0x10, true)
  | .clearNotices => some (0x11, true)
  | .clearCounters => some (0x12, true)
  | .forceRetire => some (0x13, true)
  | .startSweep => some (0x14, true)
  | .restart => some (0x15, true)
  | _ => none

/-- An operation with at least one operand (section 8.6). -/
def takesOperands : Instr → Bool
  | .readEntry | .readGroup | .readLane _ | .readNode | .readPort | .stageEntry | .stageGroup | .setLane | .setPort
  | .setManager | .clearNotices | .clearCounters | .forceRetire => true
  | _ => false

/-- Lane `k`'s request `r` answered (R143, R149): its slot is empty, a MGMT_RESPONSE with its tag and operation code stands at the tail of the control
queue, and that is work to send on the lane. -/
def answered (k : LaneId) (r : Request) (o : MgmtOutcome) (data : List Byte) (s : State) : State :=
  s.modLane k fun l =>
    Lane.workToSend
      { l with slot := none, control := l.control ++ [{ tag := r.tag, op := r.op, outcome := o, data := data }] }

/-- The request that the engine serves next is lane `k`'s request `r`, for the operation with this code, which the lane's rights allow (R147, R148, R151). -/
def Serves (s : State) (k : LaneId) (r : Request) (code : Nat) (write : Bool) : Prop :=
  nextRequest s = some (k, r) ∧ r.op.toNat = code ∧ permitted write (s.lane k).settings.rights = true

/-- The commands that lose a live lane and leave it DOWN without bringing it up again, each with its cause's LANE_DOWN code (R122). -/
def losesLane (s : State) (k : LaneId) (c : Instr) (code : Option Nat) : Prop :=
  (c = .laneLinkLost k ∧ (s.lane k).link = true ∧ code = some 1) ∨
  (c = .goodbye k ∧ (s.lane k).link = true ∧ code = none) ∨
  (c = .wakeTimerExpiry k ∧ (s.lane k).wakeTimer.isSome = true ∧ (s.lane k).state = .waking ∧ code = some 3)

/-- A condition is pending: LATCHED, STRANDED, HELD or QUEUED (R8). -/
def DeliveryState.waits : DeliveryState → Bool
  | .latched | .stranded | .held _ | .queued _ => true
  | .idle | .outstanding _ _ => false

/-- The staging list holds at most 16 records, no two for the same target, and has an owner exactly when it is not empty (R165). -/
def StagingSound (s : State) : Prop :=
  s.staging.length ≤ Config.stagingDepth ∧
  s.staging.Pairwise (fun a b => ¬ ∃ i c d, (a = .entry i c ∧ b = .entry i d)) ∧
  s.staging.Pairwise (fun a b => ¬ ∃ g c d, (a = .group g c ∧ b = .group g d)) ∧
  (s.owner.isSome ↔ s.staging ≠ [])

/-- Available credit is never above the credit limit; a lane has a limit exactly while it is live, and no credit without one (R64, R78). -/
def CreditSound (s : State) : Prop :=
  ∀ k, match (s.lane k).creditLimit with
    | some m => s.live k = true ∧ 1 ≤ m ∧ m ≤ Config.maxCreditLimit ∧ (s.lane k).availableCredit ≤ m
    | none => s.live k = false ∧ (s.lane k).availableCredit = 0

/-- A clear notice kind has sent no, first detail 0 and repeats 0, and repeats never pass 255 (R181). -/
def NoticesSound (s : State) : Prop :=
  ∀ k, (s.notice k).repeats ≤ Config.maxRepeats ∧
    ((s.notice k).isSet = false → s.notice k = NoticeRecord.clear)

/-- At least one lane that is not DISABLED has FULL rights (R156). -/
def ManagerKept (s : State) : Prop :=
  ∃ k, (s.lane k).settings.enabled = true ∧ (s.lane k).settings.rights = .full

/-- A lane is DISABLED exactly while its enabled setting is no (R113, R116). -/
def EnabledSound (s : State) : Prop :=
  ∀ k, (s.lane k).state = .disabled ↔ (s.lane k).settings.enabled = false

/-- The places of a control queue taken, the kept one included, are never more than 4 (R135, R145). -/
def PlacesSound (s : State) : Prop :=
  ∀ k, placesTaken (s.lane k) ≤ Config.controlDepth

/-- A line whose raise count is UNKNOWN is recorded deasserted (R33). -/
def BaselineSound (s : State) : Prop :=
  ∀ i, (s.entry i).raiseCount = none → (s.entry i).line = false

/-- Both lines of a node that is UNKNOWN or ABSENT are recorded deasserted (R104), with raise count UNKNOWN. -/
def AbsenceSound (s : State) : Prop :=
  ∀ p n l, ((s.node p n).presence = .unknown ∨ (s.node p n).presence = .absent) →
    (s.entry (entryIndex p n l)).line = false ∧ (s.entry (entryIndex p n l)).raiseCount = none

/-- An entry has an item in a Delivery Queue exactly when it is QUEUED on that lane, one item only, and stands on a held list exactly when it is HELD
there, once only (R8, R65, R68). -/
def PlacementSound (s : State) : Prop :=
  (∀ k i, i ∈ (s.lane k).queue.map Item.entry ↔ (s.entry i).state = .queued k) ∧
  (∀ k i, i ∈ (s.lane k).held ↔ (s.entry i).state = .held k) ∧
  (∀ k, ((s.lane k).queue.map Item.entry).Nodup) ∧
  (∀ k, (s.lane k).held.Nodup)

/-- A Delivery Queue never holds more than 32 items (R67), and a held list is not empty only while its queue holds 32 (R68). -/
def DepthSound (s : State) : Prop :=
  ∀ k, (s.lane k).queue.length ≤ Config.queueDepth ∧
    ((s.lane k).held ≠ [] → (s.lane k).queue.length = Config.queueDepth)

/-- A lane that is not live holds no item, no held entry and no binding (R86, R113). -/
def DownEmpty (s : State) : Prop :=
  ∀ k, s.live k = false → (s.lane k).queue = [] ∧ (s.lane k).held = [] ∧
    ∀ i v, (s.entry i).state ≠ .outstanding k v

/-- The pending count is 0 in IDLE and OUTSTANDING and 1 to 255 in every other state, and at most 1 for a LEVEL entry (R9). -/
def PendingSound (s : State) : Prop :=
  ∀ i, match (s.entry i).state with
    | .idle | .outstanding _ _ => (s.entry i).pendingCount = 0
    | .latched | .stranded | .held _ | .queued _ =>
      1 ≤ (s.entry i).pendingCount ∧ (s.entry i).pendingCount ≤ Config.maxPending ∧
        ((s.entry i).workTrigger = .level → (s.entry i).pendingCount = 1)

/-- A LEVEL entry that waits has its line recorded asserted (R18, R19); an OUTSTANDING entry has trigger LEVEL (R86). -/
def TriggerSound (s : State) : Prop :=
  ∀ i, match (s.entry i).state with
    | .latched | .stranded | .held _ | .queued _ => (s.entry i).workTrigger = .level → (s.entry i).line = true
    | .outstanding _ _ => (s.entry i).workTrigger = .level
    | .idle => (s.entry i).workTrigger = .level → (s.entry i).workMask = .opened →
        (s.entry i).quarantined = false → (s.entry i).line = false

/-- The items of every Delivery Queue stand in priority order (R66). -/
def OrderSound (s : State) : Prop :=
  ∀ k, (s.lane k).queue.Pairwise (fun a b => b.priority ≤ a.priority)

end Sys2Proof.Machine
end

