-- ==== Sys2Proof/WellFormed.lean ====
section
/-!
DEFINITION. Which terms of `Instr` are commands. Most operands are well formed by their types; the checks here are on the raw bytes of the discarded
frames, on the length of a request's payload, and on the lists of a power-on reset.
-/

namespace Sys2Proof

/-- A command is well formed: a discarded frame fails the checks of its receiver (R28 to R30, R197), a request's payload is at most 60 bytes
(chapter 11.2), and a power-on reset names no port and no lane twice. -/
def wellFormed (i : Instr) : Bool :=
  match i with
  | .fieldFrameDiscarded p bytes => (Machine.judgeField p bytes).isNone
  | .laneFrameDiscarded k bytes => (Machine.judgeLane k false bytes).isNone
  | .mgmtRequest _ payload => decide (payload.length ≤ Config.maxPayload)
  | .powerOnReset ports lanes wakes => decide (ports.Nodup ∧ lanes.Nodup ∧ wakes.Nodup)
  | .raise .. | .drop .. | .present .. | .portLinkLoss .. | .portLinkGained .. | .quietTimerExpiry ..
  | .probe .. | .rollcall .. | .storageFault .. | .hello .. | .goodbye .. | .retire .. | .credit ..
  | .parkAck .. | .parkNak .. | .ready .. | .laneLinkLost .. | .laneLinkGained .. | .hostWakeRaised ..
  | .idleTimerExpiry .. | .deepTimerExpiry .. | .parkReplyTimeout .. | .wakeTimerExpiry ..
  | .helloReplyGrant .. | .parkGrant .. | .mgmtResponseGrant .. | .noticeGrant | .send ..
  | .transmissionComplete .. | .restartEvent | .identify | .readEntry | .readGroup | .readLane ..
  | .readNode | .readPort | .readNotices | .readStaging | .readSweep | .stageEntry | .stageGroup | .commit
  | .discard | .setLane | .setPort | .setManager | .clearNotices | .clearCounters | .forceRetire
  | .startSweep | .restart | .sweepVisit | .refusedUnknown | .portTransmissionComplete .. => true

end Sys2Proof
end

