-- ==== Sys2Proof/Certificates/Slice0/Obligations.lean ====
section
/-!
DEFINITION. The statements for the provers. A statement of a command's result has the form `∃ t, exec c s = .next t ∧ …`: it says that the command answers a
next state and what that state is. Where it says `t.still = u.still`, the next state is `u` in everything but the idle timing of the lanes, which
`Obligations.IdleTimingAtTheEndOfEveryEvent` gives for every command; the equation is the result and the frame together.
-/

open Sys2Proof Sys2Proof.Machine

/-! ### The machine -/

/-- A step takes the command at the front of the queue and runs it with the queue's rest.
The queue is the model's own (notes/assumptions/1.md). -/
def Obligations.StepTakesTheFrontCommand : Prop :=
  ∀ (s : State) (c : Instr) (rest : List Instr),
    step { s with pending := c :: rest } = exec c { s with pending := rest }

/-- On an empty queue a step takes the expiry of a timer whose time has elapsed, where there is one, a quiet timer's first and the visit timer's last; and otherwise one microsecond passes for every
running timer and nothing else changes. The model's choice (notes/assumptions/1.md, and notes/assumptions/3.md for the host wake input that PARK_REPLY_TIMEOUT carries). -/
def Obligations.EmptyQueueLetsTimePass : Prop :=
  ∀ (s : State), s.pending = [] →
    (∀ c, firstDue s = some c → s.elapsed c ∧ step s = exec c s ∧
      ((∃ p n, s.elapsed (.quietTimerExpiry p n)) → ∃ p n, c = .quietTimerExpiry p n) ∧
      (c = .sweepVisit → ∀ d, s.elapsed d → d = .sweepVisit)) ∧
    (firstDue s = none ↔ ∀ c, ¬ s.elapsed c) ∧
    (firstDue s = none ↔
      (∀ p n, (s.node p n).quietTimer ≠ some 0) ∧
      (∀ k, (s.lane k).idleTimer ≠ some 0 ∧ (s.lane k).deepTimer ≠ some 0 ∧ (s.lane k).parkReplyTimer ≠ some 0 ∧
        (s.lane k).wakeTimer ≠ some 0) ∧
      s.sweep.visitTimer ≠ some 0) ∧
    (firstDue s = none → ∃ t, step s = .next t ∧
      (∀ p n, t.node p n = { s.node p n with quietTimer := (s.node p n).quietTimer.map (· - 1) }) ∧
      (∀ k, t.lane k = { s.lane k with
        idleTimer := (s.lane k).idleTimer.map (· - 1), deepTimer := (s.lane k).deepTimer.map (· - 1)
        parkReplyTimer := (s.lane k).parkReplyTimer.map (· - 1), wakeTimer := (s.lane k).wakeTimer.map (· - 1) }) ∧
      t = { s with
        nodes := t.nodes, lanes := t.lanes
        sweep := { s.sweep with visitTimer := s.sweep.visitTimer.map (· - 1) } })

/-- Every command in every state answers a next state, and none touches the queue of waiting commands.
The queue is the model's own (notes/assumptions/1.md, notes/assumptions/19.md), and the next state of a command whose event cannot take place in the state is the model's choice (notes/assumptions/2.md). -/
def Obligations.EveryCommandCompletesAndKeepsTheQueue : Prop :=
  ∀ (s : State) (c : Instr), ∃ t, exec c s = .next t ∧ t.pending = s.pending

/-- R127: after every event the idle timer runs on no lane that is not ACTIVE and idle, and the deep timer on no ACTIVE lane that is not idle; a lane that has become idle, or that is idle
after a crossing on it, has both timers started in full, where their settings are not 0. A lane that stays idle through an event that is no crossing on it keeps both timers as they were; the deep timer's own expiry
stops it, which on an ACTIVE lane is the model's choice (notes/assumptions/11.md). With a doze-after of 0 neither timer is started, and with a deep-after of 0 the deep timer is not. Idle is R127's: ACTIVE, with queue, held list, control queue and hello reply empty, no unsent notice waiting for it, and nothing being transmitted. -/
def Obligations.IdleTimingAtTheEndOfEveryEvent : Prop :=
  ∀ (s : State) (c : Instr) (k : LaneId), ∃ t, exec c s = .next t ∧
    ((t.lane k).state ≠ .active → (t.lane k).idleTimer = none) ∧
    ((t.lane k).state = .active → t.idle k = false → (t.lane k).idleTimer = none ∧ (t.lane k).deepTimer = none) ∧
    (t.idle k = true → (s.idle k = false ∨ (laneArrival c = some k ∧ (s.lane k).link = true ∧ wellFormed c = true)) →
      (t.lane k).settings.dozeAfter ≠ 0 →
      (t.lane k).idleTimer = some ((t.lane k).settings.dozeAfter.toNat * 1000) ∧
      ((t.lane k).settings.deepAfter ≠ 0 →
        (t.lane k).deepTimer = some ((t.lane k).settings.deepAfter.toNat * 10 * 1000))) ∧
    (t.idle k = true → s.idle k = true → (laneArrival c ≠ some k ∨ (s.lane k).link = false) →
      (t.lane k).idleTimer = (s.lane k).idleTimer ∧
      (t.lane k).deepTimer = if c = .deepTimerExpiry k then none else (s.lane k).deepTimer) ∧
    ((t.lane k).settings.dozeAfter = 0 → (s.lane k).idleTimer = none → (t.lane k).idleTimer = none) ∧
    (t.idle k = true → (t.lane k).settings.dozeAfter = 0 ∨ (t.lane k).settings.deepAfter = 0 → (s.lane k).deepTimer = none →
      (t.lane k).deepTimer = none) ∧
    (s.idle k = true ↔
      (s.lane k).state = .active ∧ (s.lane k).queue = [] ∧ (s.lane k).held = [] ∧ (s.lane k).control = [] ∧
      (s.lane k).helloReply = none ∧ (s.lane k).sending = none ∧
      (k = s.manager → ∀ kind, (s.notice kind).isSet = false ∨ (s.notice kind).sent = true))

/-- R27, R32, R117: a frame that arrives on a port whose link is down or whose transmitter is sending, or on a lane whose link is absent, is not received: nothing changes. -/
def Obligations.NothingIsReceivedWithoutALink : Prop :=
  ∀ (s : State) (c : Instr),
    (∀ p, fieldArrival c = some p → ((s.port p).link = false ∨ (s.port p).sending ≠ none) →
      ∃ t, exec c s = .next t ∧ t.still = s.still) ∧
    (∀ k, laneArrival c = some k → (s.lane k).link = false → ∃ t, exec c s = .next t ∧ t.still = s.still)

/-! ### What the commands share -/

/-- R182, R134: the raise of a set kind adds 1 to its repeats, up to 255; the raise of a clear kind sets it with its detail, and is work to send on the manager lane: PARKING keeps
it as wake pending, DOZE and DEEP start a wake with the bridge wake signal raised, and any other state is unchanged. -/
def Obligations.NoticeRaisesAndTheirWork : Prop :=
  ∀ (s : State) (kind : NoticeKind) (d : Nat) (k : LaneId),
    ((s.notice kind).isSet = true →
      raiseNotice kind d s = s.setNotice kind { s.notice kind with repeats := min 255 ((s.notice kind).repeats + 1) }) ∧
    ((s.notice kind).isSet = false →
      raiseNotice kind d s =
        (s.setNotice kind { isSet := true, sent := (s.notice kind).sent, detail := d, repeats := 0 }).workToSend s.manager) ∧
    s.workToSend k = s.modLane k fun l =>
      match l.state with
      | .parking _ => { l with wakePending := true }
      | .doze => { l with state := .waking, bridgeWake := true, wakeTimer := some 1000, deepTimer := none }
      | .deep => { l with state := .waking, bridgeWake := true, wakeTimer := some 20000, deepTimer := none }
      | .disabled | .down | .active | .waking => l

/-- R11, R57: an offer latches a quarantined or MASKED entry, quarantines one whose stored image does not match its check code, strands one whose group has no eligible lane, and
otherwise queues it on the lane chosen when that queue holds fewer than 32 items and holds it there when not. Each enqueue takes the lane's enqueue sequence and increases it by 1, and it wraps to 0 past its largest value (R64).
The form of the check code and of the enqueue sequence is the model's (notes/assumptions/4.md, notes/assumptions/5.md). -/
def Obligations.OfferOutcomes : Prop :=
  ∀ (s : State) (i : EntryIdx),
    ((s.entry i).quarantined = true ∨ (s.entry i).workMask = .masked →
      offer i s = s.modEntry i fun e => { e with state := .latched }) ∧
    (∀ n, nextOrder n = if n = Config.enqueueTop then 0 else n + 1) ∧
    ((s.entry i).quarantined = false → (s.entry i).workMask = .opened →
      ((s.entry i).code ≠ { image := (s.entry i).image, index := i } →
        offer i s = raiseNotice .tableFault i (s.modEntry i fun e => { e with quarantined := true, state := .latched })) ∧
      ((s.entry i).code = { image := (s.entry i).image, index := i } →
        ((∀ k ∈ (s.group (s.entry i).image.group).lanes, s.live k = false) →
          offer i s = raiseNotice .entryStranded i (s.modEntry i fun e => { e with state := .stranded })) ∧
        (∀ k, chooseLane s (s.entry i).image.group = some k →
          ((s.lane k).queue.length < 32 →
            offer i s =
              ((s.modLane k fun l =>
                { l with
                  queue := insertItem
                    { entry := i, vector := (s.entry i).image.vector, priority := (s.entry i).image.priority, order := l.enqueueSeq }
                    l.queue
                  enqueueSeq := nextOrder l.enqueueSeq }).modEntry i fun e => { e with state := .queued k }).workToSend k) ∧
          (32 ≤ (s.lane k).queue.length →
            offer i s = (s.modLane k fun l => { l with held := l.held ++ [i] }).modEntry i
              fun e => { e with state := .held k }))))

/-- R51 to R56: a lane is eligible when it is neither DOWN nor DISABLED. PREFER chooses the first eligible lane of the preference list; BALANCE the eligible lane with the least load, the earliest of several; no lane is chosen exactly
when none of the list is eligible. The load of a lane is its queue items, its held entries and the entries bound to it. -/
def Obligations.ChoiceOfALane : Prop :=
  ∀ (s : State) (g : GroupId),
    (∀ k, s.live k = true ↔ (s.lane k).state ≠ .down ∧ (s.lane k).state ≠ .disabled) ∧
    (chooseLane s g = none ↔ ∀ k ∈ (s.group g).lanes, s.live k = false) ∧
    (∀ k, (s.group g).policy = .prefer →
      (chooseLane s g = some k ↔
        ∃ a b, (s.group g).lanes = a ++ k :: b ∧ s.live k = true ∧ ∀ j ∈ a, s.live j = false)) ∧
    (∀ k, (s.group g).policy = .balance →
      (chooseLane s g = some k ↔
        ∃ a b, (s.group g).lanes = a ++ k :: b ∧ s.live k = true ∧
          (∀ j ∈ a, s.live j = true → load s k < load s j) ∧ (∀ j ∈ b, s.live j = true → load s k ≤ load s j))) ∧
    (∀ k, ∃ bound : List EntryIdx, bound.Nodup ∧ (∀ i, i ∈ bound ↔ ∃ v, (s.entry i).state = .outstanding k v) ∧
      load s k = (s.lane k).queue.length + (s.lane k).held.length + bound.length)

/-- R66: a new item stands after every item of its own or a higher priority and before every item of lower priority, and no other item moves. -/
def Obligations.ItemTakesTheTailOfItsPriority : Prop :=
  ∀ (item : Item) (q : List Item), q.Pairwise (fun a b => b.priority ≤ a.priority) →
    ∃ a b, q = a ++ b ∧ insertItem item q = a ++ item :: b ∧
      (∀ x ∈ a, item.priority ≤ x.priority) ∧ (∀ x ∈ b, x.priority < item.priority)

/-- R12, R20, R69, R74: on a live lane promotion takes the held entries, oldest first, until one passes its check and is enqueued, which is a wake request; the ones before it are quarantined, LATCHED, leave the
held list, and each raises TABLE_FAULT with its index. Where none passes, the list ends empty and the queue as it was. On a lane that is not live nothing happens.
The form of the check code and of the enqueue sequence is the model's (notes/assumptions/4.md, notes/assumptions/5.md). -/
def Obligations.PromotionTakesTheOldestThatPasses : Prop :=
  ∀ (s : State) (k : LaneId),
    (s.live k = false → promote k s = s) ∧
    ((s.lane k).held = [] → promote k s = s) ∧
    (∀ i rest, s.live k = true → (s.lane k).held = i :: rest →
      let taken := s.modLane k fun l => { l with held := rest }
      ((s.entry i).code = { image := (s.entry i).image, index := i } →
        promote k s =
          ((taken.modLane k fun l =>
            { l with
              queue := insertItem
                { entry := i, vector := (s.entry i).image.vector, priority := (s.entry i).image.priority, order := l.enqueueSeq }
                l.queue
              enqueueSeq := nextOrder l.enqueueSeq }).modEntry i fun e => { e with state := .queued k }).workToSend k) ∧
      ((s.entry i).code ≠ { image := (s.entry i).image, index := i } →
        promote k s =
          promote k (raiseNotice .tableFault i (taken.modEntry i fun e => { e with quarantined := true, state := .latched })))) ∧
    (s.live k = true → ∀ bad : List EntryIdx, bad.Nodup →
      (∀ b ∈ bad, (s.entry b).code ≠ { image := (s.entry b).image, index := b }) →
      ((s.lane k).held = bad →
        ((promote k s).lane k).held = [] ∧ ((promote k s).lane k).queue = (s.lane k).queue ∧
        ∀ b ∈ bad, (promote k s).entry b = { s.entry b with quarantined := true, state := .latched }) ∧
      (∀ good rest, (s.lane k).held = bad ++ good :: rest → good ∉ bad →
        (s.entry good).code = { image := (s.entry good).image, index := good } →
        ((promote k s).lane k).held = rest ∧
        ((promote k s).lane k).queue =
          insertItem
            { entry := good, vector := (s.entry good).image.vector, priority := (s.entry good).image.priority
              order := (s.lane k).enqueueSeq }
            (s.lane k).queue ∧
        (promote k s).entry good = { s.entry good with state := .queued k } ∧
        (∀ b ∈ bad, (promote k s).entry b = { s.entry b with quarantined := true, state := .latched }) ∧
        (∀ j, j ∉ bad → j ≠ good → (promote k s).entry j = s.entry j)))

/-- R14, R79: a withdrawal leaves the entry in no Delivery Queue and on no held list, with its pending count kept and every lane's credit as it was; an entry that is neither QUEUED nor HELD is left
alone, a HELD one leaves the held list in which the others keep their order, and the item of a QUEUED one leaves its queue, followed by promotion on a live lane and by none on a lane that is not.
That the withdrawn entry stands as LATCHED is the model's choice (notes/assumptions/12.md): R14 names no delivery state for an entry in no lane structure, and leaves it to the withdrawing rule to give one within the same event. -/
def Obligations.WithdrawalTakesTheEntryOut : Prop :=
  ∀ (s : State) (i : EntryIdx), PlacementSound s →
    ((withdraw i s).entry i).pendingCount = (s.entry i).pendingCount ∧
    (∀ k, i ∉ ((withdraw i s).lane k).queue.map Item.entry ∧ i ∉ ((withdraw i s).lane k).held ∧
      ((withdraw i s).lane k).availableCredit = (s.lane k).availableCredit ∧
      ((withdraw i s).lane k).creditLimit = (s.lane k).creditLimit) ∧
    ((∀ k, (s.entry i).state ≠ .queued k ∧ (s.entry i).state ≠ .held k) → withdraw i s = s) ∧
    (∀ k, (s.entry i).state = .held k →
      withdraw i s = (s.modLane k fun l => { l with held := l.held.filter (fun j => decide (j ≠ i)) }).modEntry i
        fun e => { e with state := .latched }) ∧
    (∀ k, (s.entry i).state = .queued k →
      let left := (s.modLane k fun l => { l with queue := l.queue.filter (fun x => decide (x.entry ≠ i)) }).modEntry i
        fun e => { e with state := .latched }
      (s.live k = false → withdraw i s = left) ∧ (s.live k = true → withdraw i s = promote k left))

/-! ### Event intake and node presence -/

/-- R31, R100: an accepted frame is counted and makes its node PRESENT with the quiet timer started; a PROBE still waiting for the node leaves the send list; a node that was UNKNOWN or ABSENT
raises NODE_ARRIVED with detail port·64 + node. No steering entry, no other node and no other port changes. -/
def Obligations.AcceptedFrameMakesItsNodePresent : Prop :=
  ∀ (s : State) (p : Port) (n : Node),
    let u := (s.modPort p fun r =>
        { r with framesAccepted := r.framesAccepted + 1, sendList := r.sendList.filter (fun f => decide (f ≠ .probe n)) }).modNode p n
      fun _ => { presence := .present, quietTimer := some ((s.port p).quietTime.toNat * 1000), probeWaiting := false }
    ((s.node p n).presence = .unknown ∨ (s.node p n).presence = .absent →
      accepted p n id s = raiseNotice .nodeArrived (p.val * 64 + n.val) u) ∧
    ((s.node p n).presence = .present ∨ (s.node p n).presence = .doubted → accepted p n id s = u)

/-- R37, R16, R17: a RAISE with diff 1 to 15 on an EDGE entry records the line asserted and the frame's count and counts diff − 1 missed raises. An IDLE entry gets pending count diff and is offered;
a waiting entry keeps its place and adds diff, and a sum above 255 saturates with COUNT_SATURATED. -/
def Obligations.RaiseWithNewCountOnAnEdgeEntry : Prop :=
  ∀ (s : State) (p : Port) (n : Node) (l : Line) (c r : RaiseCount),
    (s.port p).link = true → (s.port p).sending = none →
    (s.entry (entryIndex p n l)).raiseCount = some r → c ≠ r → (s.entry (entryIndex p n l)).workTrigger = .edge →
    let i := entryIndex p n l
    let diff := (c - r).toNat
    let a := (accepted p n id s).modPort p fun q => { q with missedRaises := q.missedRaises + BitVec.ofNat 32 (diff - 1) }
    ((s.entry i).state = .idle → ∃ t, exec (.raise p n l c) s = .next t ∧
      t.still = (offer i (a.modEntry i fun e =>
        { e with line := true, raiseCount := some c, pendingCount := diff })).still) ∧
    ((s.entry i).state.waits = true → ∃ t, exec (.raise p n l c) s = .next t ∧
      let u := a.modEntry i fun e =>
        { e with line := true, raiseCount := some c, pendingCount := min 255 (e.pendingCount + diff) }
      t.still = (if 255 < (s.entry i).pendingCount + diff then raiseNotice .countSaturated i u else u).still)

/-- R36: a RAISE with diff = 0 is a duplicate: the port's duplicates counter is increased by 1, and the entry is unchanged. -/
def Obligations.RaiseWithTheRecordedCountIsADuplicate : Prop :=
  ∀ (s : State) (p : Port) (n : Node) (l : Line) (c : RaiseCount),
    (s.port p).link = true → (s.port p).sending = none → (s.entry (entryIndex p n l)).raiseCount = some c →
    ∃ t, exec (.raise p n l c) s = .next t ∧
      t.still = ((accepted p n id s).modPort p fun q => { q with duplicates := q.duplicates + 1 }).still

/-- R35, R38, R18: a RAISE on an UNKNOWN baseline is one raise with nothing missed, for either trigger; a RAISE with diff 1 to 15 on a LEVEL entry counts diff − 1 missed and is a level assert: a line
already asserted changes nothing more, an IDLE entry is offered with pending count 1, an OUTSTANDING entry keeps its binding. -/
def Obligations.RaiseOnALevelEntryOrAnUnknownBaseline : Prop :=
  ∀ (s : State) (p : Port) (n : Node) (l : Line) (c : RaiseCount),
    (s.port p).link = true → (s.port p).sending = none →
    let i := entryIndex p n l
    let missed := match (s.entry i).raiseCount with | some r => (c - r).toNat - 1 | none => 0
    let a := ((accepted p n id s).modPort p fun q => { q with missedRaises := q.missedRaises + BitVec.ofNat 32 missed }).modEntry i
      fun e => { e with raiseCount := some c }
    ((s.entry i).raiseCount = none → (s.entry i).workTrigger = .edge → (s.entry i).state = .idle →
      ∃ t, exec (.raise p n l c) s = .next t ∧
        t.still = (offer i (a.modEntry i fun e => { e with line := true, pendingCount := 1 })).still) ∧
    ((s.entry i).raiseCount = none → (s.entry i).workTrigger = .edge → (s.entry i).state.waits = true →
      ∃ t, exec (.raise p n l c) s = .next t ∧
        let u := a.modEntry i fun e => { e with line := true, pendingCount := min 255 (e.pendingCount + 1) }
        t.still = (if 255 < (s.entry i).pendingCount + 1 then raiseNotice .countSaturated i u else u).still) ∧
    ((s.entry i).raiseCount ≠ some c → (s.entry i).workTrigger = .level →
      ((s.entry i).line = true → ∃ t, exec (.raise p n l c) s = .next t ∧ t.still = a.still) ∧
      ((s.entry i).line = false → (s.entry i).state = .idle → ∃ t, exec (.raise p n l c) s = .next t ∧
        t.still = (offer i (a.modEntry i fun e => { e with line := true, pendingCount := 1 })).still) ∧
      (∀ k v, (s.entry i).line = false → (s.entry i).state = .outstanding k v →
        ∃ t, exec (.raise p n l c) s = .next t ∧ t.still = (a.modEntry i fun e => { e with line := true }).still))

/-- R39, R40, R19: a DROP on an UNKNOWN baseline records its count. With a known count and diff 0 it is a deassert of an asserted line and a duplicate of a deasserted one. With diff 1 to 15 the diff is counted missed; an EDGE entry
takes diff raises before its line falls. A deassert withdraws a waiting LEVEL entry to IDLE with pending count 0 and records the level alone of an EDGE or OUTSTANDING entry. -/
def Obligations.DropClosesTheLine : Prop :=
  ∀ (s : State) (p : Port) (n : Node) (l : Line) (c : RaiseCount), (s.port p).link = true → (s.port p).sending = none →
    let i := entryIndex p n l
    ((s.entry i).raiseCount = none → (s.entry i).line = false → ∃ t, exec (.drop p n l c) s = .next t ∧
      t.still = ((accepted p n id s).modEntry i fun e => { e with raiseCount := some c }).still) ∧
    ∀ r, (s.entry i).raiseCount = some r →
      let diff := (c - r).toNat
      let a := ((accepted p n id s).modPort p fun q => { q with missedRaises := q.missedRaises + BitVec.ofNat 32 diff }).modEntry i
        fun e => { e with raiseCount := some c }
      (diff = 0 → (s.entry i).line = false → ∃ t, exec (.drop p n l c) s = .next t ∧
        t.still = ((accepted p n id s).modPort p fun q => { q with duplicates := q.duplicates + 1 }).still) ∧
      ((s.entry i).workTrigger = .level →
        ((s.entry i).line = false → diff ≠ 0 → ∃ t, exec (.drop p n l c) s = .next t ∧ t.still = a.still) ∧
        ((s.entry i).line = true → (s.entry i).state.waits = true → ∃ t, exec (.drop p n l c) s = .next t ∧
          t.still = ((withdraw i (a.modEntry i fun e => { e with line := false })).modEntry i
            fun e => { e with state := .idle, pendingCount := 0 }).still) ∧
        ((s.entry i).line = true → (s.entry i).state.waits = false → ∃ t, exec (.drop p n l c) s = .next t ∧
          t.still = (a.modEntry i fun e => { e with line := false }).still)) ∧
      ((s.entry i).workTrigger = .edge →
        ((s.entry i).line = true → diff = 0 → ∃ t, exec (.drop p n l c) s = .next t ∧
          t.still = (a.modEntry i fun e => { e with line := false }).still) ∧
        (diff ≠ 0 → (s.entry i).state = .idle → ∃ t, exec (.drop p n l c) s = .next t ∧
          t.still = ((offer i (a.modEntry i fun e => { e with line := true, pendingCount := diff })).modEntry i
            fun e => { e with line := false }).still) ∧
        (diff ≠ 0 → (s.entry i).state.waits = true → ∃ t, exec (.drop p n l c) s = .next t ∧
          let u := a.modEntry i fun e => { e with line := false, pendingCount := min 255 (e.pendingCount + diff) }
          t.still = (if 255 < (s.entry i).pendingCount + diff then raiseNotice .countSaturated i u else u).still))

/-- R31, R41 to R43: a PRESENT is reconciled line 0 first, then line 1, and each line by its own baseline. With a known count and diff 1 to 15 a line is taken as the RAISE or DROP its level stands for; with diff 0 a report of the recorded level
changes nothing, and a deasserted one of an asserted line is the DROP that closes it. On an UNKNOWN baseline an EDGE line takes count and level with no raise, a LEVEL line takes its count and, asserted, is the RAISE of an UNKNOWN baseline. -/
def Obligations.PresentReportsBothLines : Prop :=
  (∀ (s : State) (p : Port) (n : Node) (v0 : Bool) (c0 : RaiseCount) (v1 : Bool) (c1 : RaiseCount),
    (s.port p).link = true → (s.port p).sending = none → ∃ t, exec (.present p n v0 c0 v1 c1) s = .next t ∧
      t.still =
        (reconcilePresent p (entryIndex p n 1) v1 c1 (reconcilePresent p (entryIndex p n 0) v0 c0 (accepted p n id s))).still) ∧
  ∀ (s : State) (p : Port) (i : EntryIdx) (v : Bool) (c : RaiseCount),
    (∀ r, (s.entry i).raiseCount = some r →
      (c ≠ r → reconcilePresent p i v c s = if v then reconcileRaise p i c s else reconcileDrop p i c s) ∧
      (c = r → v = (s.entry i).line ∨ v = true → reconcilePresent p i v c s = s) ∧
      (c = r → v = false → (s.entry i).line = true → reconcilePresent p i v c s = reconcileDrop p i c s)) ∧
    ((s.entry i).raiseCount = none →
      ((s.entry i).workTrigger = .edge →
        reconcilePresent p i v c s = s.modEntry i fun e => { e with raiseCount := some c, line := v || e.line }) ∧
      ((s.entry i).workTrigger = .level →
        reconcilePresent p i v c s =
          if v then reconcileRaise p i c s else s.modEntry i fun e => { e with raiseCount := some c }))

/-- R3: a storage fault changes the stored image or its check code, and no working value and nothing of the dynamic part.
The form of the check code is the model's (notes/assumptions/4.md). -/
def Obligations.StorageFaultChangesStoredValuesOnly : Prop :=
  ∀ (s : State) (i : EntryIdx) (img : Image) (code : CheckCode),
    (∃ t, exec (.storageFault i (.image img)) s = .next t ∧
      t.still = (s.modEntry i fun e => { e with image := img }).still) ∧
    (∃ t, exec (.storageFault i (.code code)) s = .next t ∧ t.still = (s.modEntry i fun e => { e with code := code }).still)

/-- R101: the quiet timer of a PRESENT node expires: DOUBTED, a PROBE at the tail of the send list, the timer started again. R102, R103: of a DOUBTED node: ABSENT with the timer stopped and its PROBE removed,
both lines deasserted with raise count UNKNOWN, a waiting LEVEL entry withdrawn and IDLE, an EDGE entry's pending count and a binding kept, then NODE_LOST raised; that is all of it. No other line and no other node changes.
R102 needs no order between the node's two entries; that line 0 is treated before line 1 is the model's choice (notes/assumptions/20.md). -/
def Obligations.QuietTimerDoubtsAndThenDeclaresAbsent : Prop :=
  ∀ (s : State) (p : Port) (n : Node), (s.node p n).quietTimer.isSome = true →
    ((s.node p n).presence = .present → ∃ t, exec (.quietTimerExpiry p n) s = .next t ∧
      t.still = ((s.modNode p n fun _ =>
          { presence := .doubted, quietTimer := some ((s.port p).quietTime.toNat * 1000), probeWaiting := true }).modPort p
        fun r => { r with sendList := r.sendList ++ [.probe n] }).still) ∧
    (let fallen : Line → State → State := fun l u =>
        let i := entryIndex p n l
        let low := u.modEntry i fun e => { e with line := false }
        let dropped :=
          if (u.entry i).line = false then u
          else if (u.entry i).workTrigger = .level ∧ (u.entry i).state.waits = true then
            (withdraw i low).modEntry i fun e => { e with state := .idle, pendingCount := 0 }
          else low
        dropped.modEntry i fun e => { e with raiseCount := none }
      ∀ u : State, nodeAbsence p n u = raiseNotice .nodeLost (p.val * 64 + n.val) (fallen 1 (fallen 0
        ((u.modNode p n fun _ => { presence := .absent, quietTimer := none, probeWaiting := false }).modPort p
          fun r => { r with sendList := r.sendList.filter (fun f => decide (f ≠ .probe n)) })))) ∧
    ((s.node p n).presence = .doubted → ∃ t, exec (.quietTimerExpiry p n) s = .next t ∧ t.still = (nodeAbsence p n s).still) ∧
    ((s.node p n).presence = .doubted → PlacementSound s → ∃ t, exec (.quietTimerExpiry p n) s = .next t ∧
      t.nodes = (s.modNode p n fun _ => { presence := .absent, quietTimer := none, probeWaiting := false }).nodes ∧
      t.ports = (s.modPort p fun r => { r with sendList := r.sendList.filter (fun f => decide (f ≠ .probe n)) }).ports ∧
      t.notice .nodeLost = (raiseNotice .nodeLost (p.val * 64 + n.val) s).notice .nodeLost ∧
      (∀ l : Line, (t.entry (entryIndex p n l)).line = false ∧ (t.entry (entryIndex p n l)).raiseCount = none ∧
        ((s.entry (entryIndex p n l)).workTrigger = .level → (s.entry (entryIndex p n l)).line = true →
          (s.entry (entryIndex p n l)).state.waits = true →
          (t.entry (entryIndex p n l)).state = .idle ∧ (t.entry (entryIndex p n l)).pendingCount = 0) ∧
        ((s.entry (entryIndex p n l)).workTrigger = .edge →
          (t.entry (entryIndex p n l)).pendingCount = (s.entry (entryIndex p n l)).pendingCount) ∧
        (∀ k v, (s.entry (entryIndex p n l)).state = .outstanding k v →
          (t.entry (entryIndex p n l)).state = .outstanding k v)) ∧
      (∀ i, (∀ l, i ≠ entryIndex p n l) →
        (t.entry i).line = (s.entry i).line ∧ (t.entry i).raiseCount = (s.entry i).raiseCount ∧
        (t.entry i).pendingCount = (s.entry i).pendingCount) ∧
      t.groups = s.groups ∧ t.staging = s.staging ∧ t.owner = s.owner ∧ t.sweep = s.sweep ∧ t.manager = s.manager)

/-- R105: link loss takes the port's link down, empties its send list, abandons the frame on the segment, then performs the node absence of QuietTimerDoubtsAndThenDeclaresAbsent for each PRESENT or DOUBTED node in ascending number, and then raises PORT_LINK with detail p; that is all of it. Each such node so becomes ABSENT with its
lines down: a waiting LEVEL entry becomes IDLE, an EDGE entry keeps its pending count, a binding is kept. The other nodes and the other ports are left. NODE_LOST, where it was clear, takes the lowest lost node as its detail, and each further one adds a repeat. R106: link gained places a ROLLCALL and raises PORT_LINK with detail 4 + p.
That a link event in the state it would bring about is none is the model's choice (notes/assumptions/2.md). -/
def Obligations.PortLinkLostAndGained : Prop :=
  ∀ (s : State) (p : Port),
    ((s.port p).link = true → ∃ t, exec (.portLinkLoss p) s = .next t ∧
      t.still = (raiseNotice .portLink p.val
        ((List.finRange 64).foldl
          (fun u n => if (u.node p n).presence = .present ∨ (u.node p n).presence = .doubted then nodeAbsence p n u else u)
          (s.modPort p fun r => { r with link := false, sendList := [], sending := none }))).still ∧
      (∀ lost : List Node, lost.Pairwise (· < ·) →
        (∀ n, n ∈ lost ↔ (s.node p n).presence = .present ∨ (s.node p n).presence = .doubted) →
        t.notice .nodeLost =
          match lost with
          | [] => s.notice .nodeLost
          | n :: rest =>
            if (s.notice .nodeLost).isSet = true then
              { s.notice .nodeLost with repeats := min 255 ((s.notice .nodeLost).repeats + lost.length) }
            else { isSet := true, sent := (s.notice .nodeLost).sent, detail := p.val * 64 + n.val, repeats := rest.length }) ∧
      (PlacementSound s → ∀ n l, ((s.node p n).presence = .present ∨ (s.node p n).presence = .doubted) →
        let i := entryIndex p n l
        ((s.entry i).workTrigger = .level → (s.entry i).line = true → (s.entry i).state.waits = true →
          (t.entry i).state = .idle ∧ (t.entry i).pendingCount = 0) ∧
        ((s.entry i).workTrigger = .edge → (t.entry i).pendingCount = (s.entry i).pendingCount) ∧
        (∀ k v, (s.entry i).state = .outstanding k v → (t.entry i).state = .outstanding k v)) ∧
      (∀ n l, ((s.node p n).presence = .unknown ∨ (s.node p n).presence = .absent) →
        let i := entryIndex p n l
        (t.entry i).line = (s.entry i).line ∧ (t.entry i).raiseCount = (s.entry i).raiseCount ∧
        (t.entry i).pendingCount = (s.entry i).pendingCount) ∧
      t.ports = (s.modPort p fun r => { r with link := false, sendList := [], sending := none }).ports ∧
      t.notice .portLink = (raiseNotice .portLink p.val s).notice .portLink ∧
      (∀ n, ((s.node p n).presence = .present ∨ (s.node p n).presence = .doubted) →
        t.node p n = { presence := .absent, quietTimer := none, probeWaiting := false } ∧
        (t.notice .nodeLost).isSet = true ∧
        ∀ l, (t.entry (entryIndex p n l)).line = false ∧ (t.entry (entryIndex p n l)).raiseCount = none) ∧
      (∀ n, ((s.node p n).presence = .unknown ∨ (s.node p n).presence = .absent) → t.node p n = s.node p n) ∧
      (∀ q n, q ≠ p → t.node q n = s.node q n ∧
        ∀ l, (t.entry (entryIndex q n l)).line = (s.entry (entryIndex q n l)).line ∧
          (t.entry (entryIndex q n l)).raiseCount = (s.entry (entryIndex q n l)).raiseCount ∧
          (t.entry (entryIndex q n l)).pendingCount = (s.entry (entryIndex q n l)).pendingCount) ∧
      t.groups = s.groups ∧ t.staging = s.staging ∧ t.sweep = s.sweep ∧ t.manager = s.manager) ∧
    ((s.port p).link = false → (s.port p).sendList = [] → ∃ t, exec (.portLinkGained p) s = .next t ∧
      t.still = (raiseNotice .portLink (4 + p.val)
        (s.modPort p fun r => { r with link := true, sendList := [.rollcall] })).still)

/-- R99: a port whose link is up and that is not sending takes the oldest frame of its send list; taking a PROBE clears its node's probe waiting flag; the completion of the frame frees the transmitter. -/
def Obligations.PortTransmitterTakesTheOldestFrame : Prop :=
  ∀ (s : State) (p : Port) (rest : List PortFrame),
    ((s.port p).link = true → (s.port p).sending = none →
      (∀ n, (s.port p).sendList = .probe n :: rest → ∃ t, exec (.probe p) s = .next t ∧
        t.still = ((s.modPort p fun r => { r with sendList := rest, sending := some (.probe n) }).modNode p n
          fun r => { r with probeWaiting := false }).still) ∧
      ((s.port p).sendList = .rollcall :: rest → ∃ t, exec (.rollcall p) s = .next t ∧
        t.still = (s.modPort p fun r => { r with sendList := rest, sending := some .rollcall }).still)) ∧
    (∃ t, exec (.portTransmissionComplete p) s = .next t ∧ t.still = (s.modPort p fun r => { r with sending := none }).still)

/-! ### Host lanes -/

/-- R119, R75, R59: a HELLO with a limit of 1 to 64 brings a DOWN lane up: ACTIVE, HELLO_ACK waiting, limit and credit set, and then the STRANDED entries whose group names the lane offered in ascending index. Any other
limit is answered HELLO_NAK and the lane stays DOWN. On a DISABLED lane the frame is discarded. -/
def Obligations.HelloOnALaneThatIsNotLive : Prop :=
  ∀ (s : State) (k : LaneId) (m : Byte), (s.lane k).link = true →
    ((s.lane k).state = .down → 1 ≤ m.toNat → m.toNat ≤ 64 →
      ∃ t, ∃ stranded : List EntryIdx, exec (.hello k m) s = .next t ∧ stranded.Pairwise (· < ·) ∧
        (∀ i, i ∈ stranded ↔ (s.entry i).state = .stranded ∧ k ∈ (s.group (s.entry i).image.group).lanes) ∧
        t.still = (stranded.foldl (fun u i => offer i u) (s.modLane k fun l =>
          { l with state := .active, helloReply := some .ack, creditLimit := some m.toNat, availableCredit := m.toNat })).still) ∧
    ((s.lane k).state = .down → (m.toNat = 0 ∨ 64 < m.toNat) → ∃ t, exec (.hello k m) s = .next t ∧
      t.still = (s.modLane k fun l => { l with helloReply := some (.nak m) }).still) ∧
    ((s.lane k).state = .disabled → ∃ t, exec (.hello k m) s = .next t ∧ t.still = s.still)

/-- R120, R122: a HELLO on a live lane is lane loss with cause RESTARTED and then the same HELLO on the DOWN lane: the lane's requests, responses, bindings, staging list, read position, timers and wake state are gone, its settings and counters stand, and LANE_DOWN has been raised; with a limit
of 1 to 64 the lane is ACTIVE with that limit and full credit, with any other it is DOWN with nothing on it but a HELLO_NAK that waits. The entries that waited on the lane keep their pending counts and wait on a live lane, LATCHED or STRANDED, and with a valid limit that may be this lane; the bound ones are
released; an entry that neither waited on the lane nor was bound to it changes only where it was STRANDED and the limit is valid. -/
def Obligations.HelloOnALiveLane : Prop :=
  ∀ (s : State) (k : LaneId) (m : Byte), (s.lane k).link = true → s.live k = true → PlacementSound s →
    let valid := 1 ≤ m.toNat ∧ m.toNat ≤ 64
    ∃ t, ∃ u, exec (.hello k m) s = .next t ∧
      exec (.hello k m) (laneLoss k .restarted s) = .next u ∧ t.still = u.still ∧
      (t.lane k).idleTimer = none ∧ (t.lane k).deepTimer = none ∧ (t.lane k).parkReplyTimer = none ∧ (t.lane k).wakeTimer = none ∧
      (t.lane k).wakePending = false ∧ (t.lane k).deepParkDue = false ∧ (t.lane k).readPos = 0 ∧
      (∀ i,
        let waits := (t.entry i).state = .latched ∨ (t.entry i).state = .stranded ∨
          ∃ j, (j = k → valid) ∧ s.live j = true ∧ ((t.entry i).state = .queued j ∨ (t.entry i).state = .held j)
        ((s.entry i).state = .queued k ∨ (s.entry i).state = .held k → waits ∧ (t.entry i).pendingCount = (s.entry i).pendingCount) ∧
        (∀ v, (s.entry i).state = .outstanding k v →
          ((s.entry i).line = false → (t.entry i).state = .idle ∧ (t.entry i).pendingCount = 0) ∧
          ((s.entry i).line = true → waits ∧ (t.entry i).pendingCount = 1)) ∧
        ((s.entry i).state ≠ .queued k → (s.entry i).state ≠ .held k → (∀ v, (s.entry i).state ≠ .outstanding k v) →
          (valid → (s.entry i).state ≠ .stranded) → t.entry i = s.entry i)) ∧
      (t.lane k).control = [] ∧ (t.lane k).slot = none ∧ (t.lane k).sending = none ∧ (t.lane k).bridgeWake = false ∧
      (t.lane k).settings = (s.lane k).settings ∧ (t.lane k).counters = (s.lane k).counters ∧
      (∀ i v, (t.entry i).state ≠ .outstanding k v) ∧ t.owner ≠ some k ∧ (s.owner = some k → t.staging = []) ∧
      t.notice .laneDown = (raiseNotice .laneDown (k.val * 16 + 4) s).notice .laneDown ∧
      (1 ≤ m.toNat → m.toNat ≤ 64 →
        (t.lane k).state = .active ∧ (t.lane k).helloReply = some .ack ∧
        (t.lane k).creditLimit = some m.toNat ∧ (t.lane k).availableCredit = m.toNat) ∧
      ((m.toNat = 0 ∨ 64 < m.toNat) →
        (t.lane k).state = .down ∧ (t.lane k).helloReply = some (.nak m) ∧ (t.lane k).creditLimit = none ∧
        (t.lane k).availableCredit = 0 ∧ (t.lane k).queue = [] ∧ (t.lane k).held = [])

/-- R122, R123, R126: after lane loss nothing refers to the lane: no item, no held entry, no binding, no request, no response, no staged record; its credit, timers, wake state, hello reply and transmitter are cleared;
its settings and counters are kept; LANE_DOWN is raised for the causes that raise it; a restart that waited for the lane's DONE is due. -/
def Obligations.LaneLossLeavesNothingOnTheLane : Prop :=
  ∀ (s : State) (k : LaneId) (c : Instr) (code : Option Nat), losesLane s k c code → s.live k = true → PlacementSound s →
    ∃ t, exec c s = .next t ∧
      t.lane k = { s.lane k with
        state := .down, link := if c = .laneLinkLost k then false else (s.lane k).link
        helloReply := none, control := [], idleTimer := none, deepTimer := none, parkReplyTimer := none, wakeTimer := none
        wakePending := false, deepParkDue := false, bridgeWake := false, queue := [], held := [], creditLimit := none
        availableCredit := 0, slot := none, readPos := 0, sending := none } ∧
      (∀ i, (t.entry i).state ≠ .queued k ∧ (t.entry i).state ≠ .held k ∧ ∀ v, (t.entry i).state ≠ .outstanding k v) ∧
      (s.owner = some k → t.owner = none ∧ t.staging = []) ∧
      (s.owner ≠ some k → t.owner = s.owner ∧ t.staging = s.staging) ∧
      (s.restart = .awaitingDone k → t.restart = .due) ∧ (s.restart ≠ .awaitingDone k → t.restart = s.restart) ∧
      (∀ d, code = some d → t.notice .laneDown = (raiseNotice .laneDown (k.val * 16 + d) s).notice .laneDown) ∧
      (code = none → t.notice .laneDown = s.notice .laneDown) ∧
      t.ports = s.ports ∧ t.nodes = s.nodes ∧ t.groups = s.groups ∧ t.sweep = s.sweep ∧ t.manager = s.manager ∧
      t.pointer = s.pointer

/-- R122 to R126, R20: lane loss, for each of its five causes, clears the lane; then withdraws and offers the entries of its queue, head first, and of its held list, oldest first; then removes all its bindings and settles those entries in ascending index, an asserted one offered with pending count 1; then clears the
lane's management state; then raises LANE_DOWN for the causes that raise it. An entry that waited on the lane so keeps its pending count and ends QUEUED or HELD on another live lane, STRANDED or LATCHED; a bound entry whose line is deasserted becomes IDLE, one whose line is asserted waits again with pending
count 1; no other entry changes. Link lost, GOODBYE and the wake timer's expiry do this and nothing else; a HELLO on a live lane and a SET_LANE that disables one do it within HelloOnALiveLane and SetLaneWritesTheSettings.
That the restart has a phase in State is the model's choice (notes/assumptions/19.md). -/
def Obligations.LaneLossMovesTheLanesWork : Prop :=
  ∀ (s : State) (k : LaneId), s.live k = true → PlacementSound s →
    let moves : State → Prop := fun t => ∀ i,
      ((s.entry i).state = .queued k ∨ (s.entry i).state = .held k →
        (t.entry i).pendingCount = (s.entry i).pendingCount ∧
        ((t.entry i).state = .latched ∨ (t.entry i).state = .stranded ∨
          ∃ j, j ≠ k ∧ s.live j = true ∧ ((t.entry i).state = .queued j ∨ (t.entry i).state = .held j))) ∧
      (∀ v, (s.entry i).state = .outstanding k v →
        ((s.entry i).line = false → (t.entry i).state = .idle ∧ (t.entry i).pendingCount = 0) ∧
        ((s.entry i).line = true → (t.entry i).pendingCount = 1 ∧
          ((t.entry i).state = .latched ∨ (t.entry i).state = .stranded ∨
            ∃ j, j ≠ k ∧ s.live j = true ∧ ((t.entry i).state = .queued j ∨ (t.entry i).state = .held j)))) ∧
      ((s.entry i).state ≠ .queued k → (s.entry i).state ≠ .held k → (∀ v, (s.entry i).state ≠ .outstanding k v) →
        t.entry i = s.entry i)
    (∀ (c : Instr) (code : Option Nat), losesLane s k c code → ∃ t, exec c s = .next t ∧ moves t) ∧
    ((s.lane k).link = true → ∃ t, exec (.laneLinkLost k) s = .next t ∧ t.still = (laneLoss k .linkLost s).still) ∧
    ((s.lane k).link = true → ∃ t, exec (.goodbye k) s = .next t ∧ t.still = (laneLoss k .closed s).still) ∧
    ((s.lane k).wakeTimer.isSome = true → (s.lane k).state = .waking → ∃ t, exec (.wakeTimerExpiry k) s = .next t ∧
      t.still = (laneLoss k .wakeTimeout s).still) ∧
    ∃ bound : List EntryIdx, bound.Pairwise (· < ·) ∧ (∀ i, i ∈ bound ↔ ∃ v, (s.entry i).state = .outstanding k v) ∧
      ∀ cause : LossCause,
        let lost := s.modLane k fun l =>
          { l with
            state := if cause = .disabled then .disabled else .down
            link := if cause = .linkLost then false else l.link
            creditLimit := none, availableCredit := 0, idleTimer := none, deepTimer := none, parkReplyTimer := none
            wakeTimer := none, wakePending := false, deepParkDue := false, bridgeWake := false, helloReply := none, sending := none }
        let moved := ((s.lane k).queue.map Item.entry ++ (s.lane k).held).foldl (fun u i => offer i (withdraw i u)) lost
        let freed := bound.foldl (fun u i => u.modEntry i fun e => { e with state := .idle, pendingCount := 0 }) moved
        let settled := bound.foldl
          (fun u i => if (s.entry i).line = true then offer i (u.modEntry i fun e => { e with pendingCount := 1 }) else u) freed
        let cleared :=
          { settled.modLane k (fun l => { l with control := [], slot := none, readPos := 0 }) with
            restart := if s.restart = .awaitingDone k then .due else s.restart }
        let unstaged :=
          if s.owner = some k then
            { cleared.mapLanes (fun _ l => { l with readPos := 0 }) with staging := [], owner := none }
          else cleared
        moves (laneLoss k cause s) ∧
        laneLoss k cause s =
          match cause with
          | .linkLost => raiseNotice .laneDown (k.val * 16 + 1) unstaged
          | .wakeTimeout => raiseNotice .laneDown (k.val * 16 + 3) unstaged
          | .restarted => raiseNotice .laneDown (k.val * 16 + 4) unstaged
          | .closed | .disabled => unstaged

/-- R88 to R92: a RETIRE releases every entry bound to its lane under its vector and no other. All their bindings are removed first; then the entries are settled in ascending index, a deasserted line leaving the entry IDLE and an asserted one
offering it with pending count 1, each offer seeing what the earlier ones left. It is counted, and no credit changes. Where no entry matches it is stray: counted, counted stray, and STRAY_RETIRE raised with detail lane·256 + vector. -/
def Obligations.RetireReleasesEveryMatch : Prop :=
  ∀ (s : State) (k : LaneId) (v : Byte), (s.lane k).link = true → s.live k = true →
    ((∃ i, (s.entry i).state = .outstanding k v) → ∃ t, ∃ matching : List EntryIdx, exec (.retire k v) s = .next t ∧
      matching.Pairwise (· < ·) ∧ (∀ i, i ∈ matching ↔ (s.entry i).state = .outstanding k v) ∧
      (
        let counted := (frameWakes k s).modLane k fun l =>
          { l with counters := { l.counters with retiresReceived := l.counters.retiresReceived + 1 } }
        let freed := matching.foldl (fun u i => u.modEntry i fun e => { e with state := .idle, pendingCount := 0 }) counted
        t.still = (matching.foldl
          (fun u i => if (s.entry i).line = true then offer i (u.modEntry i fun e => { e with pendingCount := 1 }) else u) freed).still) ∧
      (t.lane k).counters = { (s.lane k).counters with
        retiresReceived := (s.lane k).counters.retiresReceived + 1
        parksDeclined := (frameWakes k s |>.lane k).counters.parksDeclined } ∧
      (∀ j, (t.lane j).availableCredit = (s.lane j).availableCredit ∧ (t.lane j).creditLimit = (s.lane j).creditLimit) ∧
      (∀ i, (s.entry i).state = .outstanding k v →
        ((s.entry i).line = false → (t.entry i).state = .idle ∧ (t.entry i).pendingCount = 0) ∧
        ((s.entry i).line = true → (t.entry i).state.waits = true ∧ (t.entry i).pendingCount = 1)) ∧
      (∀ i, (s.entry i).state ≠ .outstanding k v → t.entry i = s.entry i) ∧
      t.ports = s.ports ∧ t.nodes = s.nodes ∧ t.groups = s.groups ∧ t.staging = s.staging ∧ t.sweep = s.sweep) ∧
    ((∀ i, (s.entry i).state ≠ .outstanding k v) → ∃ t, exec (.retire k v) s = .next t ∧
      t.still = (raiseNotice .strayRetire (k.val * 256 + v.toNat) ((frameWakes k s).modLane k fun l =>
        { l with counters := { l.counters with
          retiresReceived := l.counters.retiresReceived + 1, strayRetires := l.counters.strayRetires + 1 } })).still)

/-- R76, R77: a CREDIT of 0 is ignored; otherwise the available credit rises by the count where that is not above the limit, and else becomes the limit, the excess is added to credits overrun and CREDIT_OVERRUN is raised. -/
def Obligations.CreditIsTakenUpToTheLimit : Prop :=
  ∀ (s : State) (k : LaneId) (c : Byte) (m : Nat),
    (s.lane k).link = true → s.live k = true → (s.lane k).creditLimit = some m →
    (c = 0 → ∃ t, exec (.credit k c) s = .next t ∧ t.still = (frameWakes k s).still) ∧
    (c ≠ 0 → (s.lane k).availableCredit + c.toNat ≤ m → ∃ t, exec (.credit k c) s = .next t ∧
      t.still = ((frameWakes k s).modLane k fun l => { l with availableCredit := l.availableCredit + c.toNat }).still) ∧
    (c ≠ 0 → m < (s.lane k).availableCredit + c.toNat → ∃ t, exec (.credit k c) s = .next t ∧
      t.still = (raiseNotice .creditOverrun k.val ((frameWakes k s).modLane k fun l =>
        { l with
          availableCredit := m
          counters := { l.counters with
            creditsOverrun := l.counters.creditsOverrun + BitVec.ofNat 32 ((s.lane k).availableCredit + c.toNat - m) } })).still)

/-- R143, R145, R146: a request too short for a tag and an operation, or one that finds all 4 places of the control queue taken, is dropped and counted; with a place free and the slot full it is refused REFUSED_BUSY
at the tail of the control queue; with a place free and the slot empty it fills the slot. -/
def Obligations.RequestIsAcceptedRefusedOrDropped : Prop :=
  ∀ (s : State) (k : LaneId) (payload : List Byte), (s.lane k).link = true → s.live k = true →
    let dropped := ((frameWakes k s).modLane k fun l =>
      { l with counters := { l.counters with requestsDropped := l.counters.requestsDropped + 1 } }).still
    (payload.length < 2 → ∃ t, exec (.mgmtRequest k payload) s = .next t ∧ t.still = dropped) ∧
    (4 ≤ (s.lane k).control.length + (if (s.lane k).slot.isSome then 1 else 0) →
      ∃ t, exec (.mgmtRequest k payload) s = .next t ∧ t.still = dropped) ∧
    (∀ tag op args, payload = tag :: op :: args →
      ((s.lane k).control.length < 3 → (s.lane k).slot.isSome = true → ∃ t, exec (.mgmtRequest k payload) s = .next t ∧
        t.still = ((frameWakes k s).modLane k fun l =>
          { l with control := l.control ++ [{ tag := tag, op := op, outcome := .refusedBusy, data := [] }] }).still) ∧
      ((s.lane k).control.length < 4 → (s.lane k).slot = none → ∃ t, exec (.mgmtRequest k payload) s = .next t ∧
        t.still = ((frameWakes k s).modLane k fun l =>
          { l with slot := some { tag := tag, op := op, args := args } }).still))

/-- R129, R131, R132: PARK_ACK taken by the handshake. PARKING(DOZE) goes to DOZE and PARKING(DEEP) to DEEP; wake pending starts a wake with the bridge wake signal raised, a host wake input that is high one without; a
deep park that was due, with no wake, makes the lane PARKING(DEEP). PARK_NAK and the reply timer go to ACTIVE from PARKING(DOZE) and to DOZE from PARKING(DEEP), with parks declined increased.
The level of the host wake input is an operand of the command, the model's choice (notes/assumptions/3.md); that a wake comes before the deep park due is read from R129 and R131 (notes/assumptions/9.md), and so is that a deep-after that has become 0 starts no deep timer and leaves it as it is (notes/assumptions/10.md); that the
deep timer of a lane back in DOZE is started in full where doze-after has become 0 is the model's choice (notes/assumptions/21.md). -/
def Obligations.ParkRepliesSettleTheHandshake : Prop :=
  ∀ (s : State) (k : LaneId) (w : Bool), (s.lane k).parkReplyTimer.isSome = true →
    let l := { s.lane k with hostWake := w, parkReplyTimer := none, wakePending := false, deepParkDue := false }
    let waking : Lane → Nat → Lane := fun m d =>
      { m with state := .waking, wakeTimer := some d, deepTimer := none, bridgeWake := (s.lane k).wakePending || m.bridgeWake }
    let wakes := (s.lane k).wakePending || w
    ((s.lane k).state = .parking .doze →
      ((s.lane k).link = true → ∃ t, exec (.parkAck k w) s = .next t ∧
        t.still = (s.modLane k fun _ =>
          if wakes then waking l 1000
          else if (s.lane k).deepParkDue then { l with state := .parking .deep } else { l with state := .doze }).still) ∧
      (∀ c, (c = .parkNak k w ∧ (s.lane k).link = true) ∨ c = .parkReplyTimeout k w → ∃ t, exec c s = .next t ∧
        t.still = (s.modLane k fun _ =>
          { l with
            state := .active, deepTimer := none
            counters := { l.counters with parksDeclined := l.counters.parksDeclined + 1 } }).still)) ∧
    ((s.lane k).state = .parking .deep →
      ((s.lane k).link = true → ∃ t, exec (.parkAck k w) s = .next t ∧
        t.still = (s.modLane k fun _ =>
          if wakes then waking l 20000 else { l with state := .deep, deepTimer := none }).still) ∧
      (∀ c, (c = .parkNak k w ∧ (s.lane k).link = true) ∨ c = .parkReplyTimeout k w →
        ∃ t, exec c s = .next t ∧
          t.still = (s.modLane k fun _ =>
            let m := { l with counters := { l.counters with parksDeclined := l.counters.parksDeclined + 1 } }
            if wakes then waking m 1000
            else
              { m with
                state := .doze
                deepTimer := if l.settings.deepAfter = 0 then l.deepTimer
                  else some (l.settings.deepAfter.toNat * 10 * 1000 - l.settings.dozeAfter.toNat * 1000) }).still))

/-- R118, R130, R132, R133: what a host frame that no handshake takes does to the lane state, seen at READY, which does nothing else: every live lane becomes ACTIVE, a PARK already granted counts as declined, a wake ends with the
bridge wake signal lowered. A PARK_ACK or PARK_NAK outside the handshake does the same. On a lane that is not live the frame is discarded, a PARK_ACK and a PARK_NAK too.
That PARK_ACK and PARK_NAK carry the level of the host wake input is the model's choice (notes/assumptions/3.md). -/
def Obligations.HostFrameMakesTheLaneActive : Prop :=
  ∀ (s : State) (k : LaneId) (w : Bool), (s.lane k).link = true →
    (s.live k = true →
      (frameWakes k s = s.modLane k fun l =>
        match l.state with
        | .parking _ =>
          { l with
            state := .active, parkReplyTimer := none, deepTimer := none, wakePending := false, deepParkDue := false
            counters := if l.parkReplyTimer.isSome then { l.counters with parksDeclined := l.counters.parksDeclined + 1 }
              else l.counters }
        | .doze | .deep => { l with state := .active, deepTimer := none }
        | .waking => { l with state := .active, wakeTimer := none, bridgeWake := false }
        | .active | .down | .disabled => l) ∧
      (∃ t, exec (.ready k) s = .next t ∧ t.still = (frameWakes k s).still) ∧
      (((∀ d, (s.lane k).state ≠ .parking d) ∨ (s.lane k).parkReplyTimer = none) →
        ∀ c, c = .parkAck k w ∨ c = .parkNak k w → ∃ t, exec c s = .next t ∧
          t.still = (frameWakes k (s.modLane k fun l => { l with hostWake := w })).still)) ∧
    (s.live k = false → ∀ c, (∃ v, c = .retire k v) ∨ (∃ n, c = .credit k n) ∨ (∃ x, c = .mgmtRequest k x) ∨ c = .ready k ∨
      c = .goodbye k → ∃ t, exec c s = .next t ∧ t.still = s.still) ∧
    (s.live k = false → ∀ c, c = .parkAck k w ∨ c = .parkNak k w → ∃ t, exec c s = .next t ∧
      t.still = (s.modLane k fun l => { l with hostWake := w }).still)

/-- R28 to R30, R197: a field frame that has not four bytes, or a bad check, or kind code 3, is counted in its port's frames discarded and goes no further; a lane frame of fewer than 4 bytes, of a length other than its length byte
says, of a length byte above 60, with a bad check, or of a kind no host sends, is counted in its lane's lane frames discarded in every lane state. -/
def Obligations.DamagedFramesAreCounted : Prop :=
  ∀ (s : State) (p : Port) (k : LaneId) (bytes : List Byte),
    ((s.port p).link = true → (s.port p).sending = none →
      (bytes.length ≠ 4 ∨ ∃ b0 b1 b2 b3, bytes = [b0, b1, b2, b3] ∧ (crc8 [b0, b1, b2] ≠ b3 ∨ b0.toNat / 64 = 3)) →
      ∃ t, exec (.fieldFrameDiscarded p bytes) s = .next t ∧
        t.still = (s.modPort p fun r => { r with framesDiscarded := r.framesDiscarded + 1 }).still) ∧
    ((s.lane k).link = true →
      (bytes.length < 4 ∨
        (∃ kind len rest, bytes = kind :: len :: rest ∧ (60 < len.toNat ∨ bytes.length ≠ 4 + len.toNat)) ∨
        (∃ kind payload hi lo, payload.length ≤ 60 ∧ bytes = kind :: oneByte payload.length :: payload ++ [hi, lo] ∧
          [hi, lo] ≠ twoBytes (crc16 (kind :: oneByte payload.length :: payload)).toNat) ∨
        (∃ kind payload, bytes = laneFrameBytes kind payload ∧ payload.length ≤ 60 ∧
          kind ∉ [0x10#8, 0x13#8, 0x21#8, 0x22#8, 0x30#8, 0x41#8, 0x42#8, 0x43#8])) →
      ∃ t, exec (.laneFrameDiscarded k bytes) s = .next t ∧
        t.still = (s.modLane k fun l =>
          { l with counters := { l.counters with framesDiscarded := l.counters.framesDiscarded + 1 } }).still)

/-- R128, R131, R117, R130, R132, R200: the idle timer takes an ACTIVE lane to PARKING(DOZE) with its deep timer running on; the deep timer takes DOZE to PARKING(DEEP) and is noted as a deep park due in PARKING(DOZE); a raise of the host
wake input is wake pending in PARKING, wakes DOZE and DEEP without the bridge wake signal, has no other effect, and while the link is absent none but the level seen; a lane's link gained leaves the lane state; link lost on a lane that is not live discards its hello reply.
The host wake input held as last seen is the model's choice (notes/assumptions/3.md), and that the loss of the link abandons a frame of a lane that is not live is read from R117 (notes/assumptions/17.md). -/
def Obligations.LaneTimersLinkAndWakeInput : Prop :=
  ∀ (s : State) (k : LaneId),
    ((s.lane k).idleTimer.isSome = true → (s.lane k).state = .active → ∃ t, exec (.idleTimerExpiry k) s = .next t ∧
      t.still = (s.modLane k fun l => { l with state := .parking .doze, idleTimer := none, wakePending := false }).still) ∧
    ((s.lane k).deepTimer.isSome = true → (s.lane k).state = .doze → ∃ t, exec (.deepTimerExpiry k) s = .next t ∧
      t.still = (s.modLane k fun l => { l with state := .parking .deep, deepTimer := none, wakePending := false }).still) ∧
    ((s.lane k).deepTimer.isSome = true → (s.lane k).state = .parking .doze → ∃ t, exec (.deepTimerExpiry k) s = .next t ∧
      t.still = (s.modLane k fun l => { l with deepTimer := none, deepParkDue := true }).still) ∧
    ((s.lane k).link = true → ∃ t, exec (.hostWakeRaised k) s = .next t ∧
      t.still = (s.modLane k fun l =>
        match l.state with
        | .parking _ => { l with hostWake := true, wakePending := true }
        | .doze => { l with hostWake := true, state := .waking, wakeTimer := some 1000, deepTimer := none }
        | .deep => { l with hostWake := true, state := .waking, wakeTimer := some 20000, deepTimer := none }
        | .active | .waking | .down | .disabled => { l with hostWake := true }).still) ∧
    ((s.lane k).link = false → ∃ t, exec (.hostWakeRaised k) s = .next t ∧
      t.still = (s.modLane k fun l => { l with hostWake := true }).still) ∧
    (∃ t, exec (.laneLinkGained k) s = .next t ∧ t.still = (s.modLane k fun l => { l with link := true }).still) ∧
    ((s.lane k).link = true → s.live k = false → ∃ t, exec (.laneLinkLost k) s = .next t ∧
      t.still = (s.modLane k fun l => { l with link := false, helloReply := none, sending := none }).still)

/-- R136, R70: the transmitter grants the first rank that has a frame sendable in the current lane state: hello reply (any state but DISABLED), PARK (PARKING, not yet granted), control frame (ACTIVE), notice (ACTIVE, the manager lane, a kind unsent),
EVENT (ACTIVE, credit of at least 1, an item); and none while the link is absent or a frame is being transmitted.
That a hello reply is granted in DOZE, DEEP and WAKING, as the table of R136 says and its text does not, and is not granted in DISABLED, as the text says, is the model's choice (notes/assumptions/22.md). -/
def Obligations.TransmitterGrantsByRank : Prop :=
  ∀ (s : State) (k : LaneId),
    let l := s.lane k
    let hello := l.helloReply ≠ none ∧ l.state ≠ .disabled
    let park := (∃ d, l.state = .parking d) ∧ l.parkReplyTimer = none
    let control := l.state = .active ∧ l.control ≠ []
    let notice := l.state = .active ∧ k = s.manager ∧ ∃ kind, (s.notice kind).isSet = true ∧ (s.notice kind).sent = false
    let item := l.state = .active ∧ 1 ≤ l.availableCredit ∧ l.queue ≠ []
    ((l.link = false ∨ l.sending ≠ none) → granted s k = none) ∧
    (l.link = true → l.sending = none →
      (granted s k = some .helloReply ↔ hello) ∧
      (granted s k = some .park ↔ park ∧ ¬ hello) ∧
      (granted s k = some .control ↔ control ∧ ¬ hello ∧ ¬ park) ∧
      (granted s k = some .notice ↔ notice ∧ ¬ hello ∧ ¬ park ∧ ¬ control) ∧
      (granted s k = some .event ↔ item ∧ ¬ hello ∧ ¬ park ∧ ¬ control ∧ ¬ notice))

/-- R136, R128, R135, R184, R137, R162: the grant is the send of the frame: the hello reply is emptied, the PARK's reply timer starts with 2 ms, the oldest control frame leaves the queue, the unsent kind with the lowest number is marked sent and
carried with its detail and repeats. The completion frees the transmitter, and that of a pending RESTART's DONE makes the restart event due; the completion of any other frame, on the lane whose DONE is awaited too, leaves the restart as it is. -/
def Obligations.GrantsAndCompletion : Prop :=
  ∀ (s : State) (k : LaneId),
    (granted s k = some .helloReply → (s.lane k).helloReply = some .ack → ∃ t, exec (.helloReplyGrant k) s = .next t ∧
      t.still = (s.modLane k fun l => { l with helloReply := none, sending := some (.helloAck k) }).still) ∧
    (∀ m, granted s k = some .helloReply → (s.lane k).helloReply = some (.nak m) →
      ∃ t, exec (.helloReplyGrant k) s = .next t ∧
        t.still = (s.modLane k fun l => { l with helloReply := none, sending := some (.helloNak m) }).still) ∧
    (∀ d, granted s k = some .park → (s.lane k).state = .parking d → ∃ t, exec (.parkGrant k) s = .next t ∧
      t.still = (s.modLane k fun l => { l with parkReplyTimer := some 2000, sending := some (.park d) }).still) ∧
    (∀ r rest, granted s k = some .control → (s.lane k).control = r :: rest →
      ∃ t, exec (.mgmtResponseGrant k) s = .next t ∧
        t.still = (s.modLane k fun l => { l with control := rest, sending := some (.response r) }).still) ∧
    (∀ kind, k = s.manager → granted s k = some .notice → (s.notice kind).isSet = true → (s.notice kind).sent = false →
      (∀ j : NoticeKind, j.number < kind.number → (s.notice j).isSet = false ∨ (s.notice j).sent = true) →
      ∃ t, exec .noticeGrant s = .next t ∧
        t.still = ((s.setNotice kind { s.notice kind with sent := true }).modLane k fun l =>
          { l with sending := some (.notice kind (s.notice kind).detail (s.notice kind).repeats) }).still) ∧
    (∀ f, (s.lane k).sending = some f → s.restart ≠ .awaitingDone k → ∃ t, exec (.transmissionComplete k) s = .next t ∧
      t.still = (s.modLane k fun l => { l with sending := none }).still) ∧
    (∀ f, (s.lane k).sending = some f →
      (∀ tag data, f ≠ .response { tag := tag, op := 0x15, outcome := .done, data := data }) →
      ∃ t, exec (.transmissionComplete k) s = .next t ∧ t.still = (s.modLane k fun l => { l with sending := none }).still) ∧
    (∀ tag data, (s.lane k).sending = some (.response { tag := tag, op := 0x15, outcome := .done, data := data }) →
      s.restart = .awaitingDone k → ∃ t, exec (.transmissionComplete k) s = .next t ∧
        t.still = ({ s with restart := .due }.modLane k fun l => { l with sending := none }).still)

/-- R71, R72: the send takes the head item, spends one credit, is counted, and is followed by promotion. The frame carries the item's vector and priority, the entry's key and trigger, and its pending count for EDGE, 1 for LEVEL. An EDGE entry becomes IDLE, a
LEVEL entry OUTSTANDING with this lane and the item's vector, both with pending count 0. -/
def Obligations.SendDeliversTheHeadItem : Prop :=
  ∀ (s : State) (k : LaneId) (item : Item) (rest : List Item),
    granted s k = some .event → (s.lane k).queue = item :: rest →
    let e := s.entry item.entry
    ∃ t, exec (.send k) s = .next t ∧
      t.still = ((promote k ((s.modLane k fun l =>
          { l with
            availableCredit := l.availableCredit - 1, queue := rest
            counters := { l.counters with eventsSent := l.counters.eventsSent + 1 } }).modEntry item.entry fun e =>
          { e with
            pendingCount := 0
            state := match e.workTrigger with | .edge => .idle | .level => .outstanding k item.vector })).modLane k fun l =>
        { l with sending := some (.event item.vector item.entry item.priority e.workTrigger
            (match e.workTrigger with | .edge => e.pendingCount | .level => 1)) }).still

/-! ### Resets -/

/-- R163, R7, R64, R85, R138, R107, R26, R181, R189: the restart event clears the dynamic part of every entry, every lane but its link, settings and frame in transmission, the presence records, the port counters, the staging list, the notices and the sweep; it keeps the
configuration parts with their quarantine flags, the Group Table, the lane settings, the quiet times and the manager lane, and places a ROLLCALL on each port whose link is up.
That State holds the host wake input as last seen, the frames in transmission and the phase of a restart is the model's choice (notes/assumptions/3.md, notes/assumptions/19.md). -/
def Obligations.RestartEventClearsTheDynamicState : Prop :=
  ∀ (s : State), s.restart = .due → ∃ t, exec .restartEvent s = .next t ∧
    (∀ i, t.entry i = { s.entry i with state := .idle, line := false, raiseCount := none, pendingCount := 0 }) ∧
    (∀ k, t.lane k =
      { state := if (s.lane k).state = .disabled then .disabled else .down
        link := (s.lane k).link, hostWake := (s.lane k).hostWake, settings := (s.lane k).settings
        sending := (s.lane k).sending, helloReply := none, control := [], idleTimer := none, deepTimer := none
        parkReplyTimer := none, wakeTimer := none, wakePending := false, deepParkDue := false, bridgeWake := false
        counters := ⟨0, 0, 0, 0, 0, 0, 0⟩, queue := [], held := [], creditLimit := none, availableCredit := 0, enqueueSeq := 0
        slot := none, readPos := 0 }) ∧
    (∀ p n, t.node p n = { presence := .unknown, quietTimer := none, probeWaiting := false }) ∧
    (∀ p, t.port p =
      { link := (s.port p).link, quietTime := (s.port p).quietTime, sending := (s.port p).sending
        framesAccepted := 0, framesDiscarded := 0, duplicates := 0, missedRaises := 0
        sendList := if (s.port p).link then [.rollcall] else [] }) ∧
    (∀ kind, t.notice kind = { isSet := false, sent := false, detail := 0, repeats := 0 }) ∧
    t.groups = s.groups ∧ t.manager = s.manager ∧ t.pointer = 7 ∧ t.restart = .no ∧ t.staging = [] ∧ t.owner = none ∧
    t.sweep = { running := false, position := 0, faultsFound := 0, visitTimer := none }

/-- R201, R4, R6, R49, R64, R97, R106, R114, R115, R144, R165, R181, R189: a power-on reset leaves every block at its power-on values, with the links and host wake inputs that the detectors report at the release; each port whose link is present has taken a link gained event.
The operands of the command are the model's (notes/assumptions/7.md, and notes/assumptions/3.md for the wake inputs), the form of the check code is the model's (notes/assumptions/4.md), and the whole reset as one event is read from R201 (notes/assumptions/6.md). -/
def Obligations.PowerOnResetGivesThePowerOnValues : Prop :=
  ∀ (s : State) (ports : List Port) (lanes wakes : List LaneId), ports.Nodup →
    ∃ t, exec (.powerOnReset ports lanes wakes) s = .next t ∧
      (∀ i, t.entry i =
        { image := { mask := .masked, trigger := .edge, vector := 0, priority := 0, group := 0 }
          code := { image := { mask := .masked, trigger := .edge, vector := 0, priority := 0, group := 0 }, index := i }
          workMask := .masked, workTrigger := .edge, state := .idle, line := false, raiseCount := none
          pendingCount := 0, quarantined := false }) ∧
      (∀ g, t.group g = { policy := .prefer, lanes := if g = 0 then [0] else [] }) ∧
      (∀ k, t.lane k =
        { state := .down, link := decide (k ∈ lanes), hostWake := decide (k ∈ wakes)
          settings := { rights := if k = 0 then .full else .observe, dozeAfter := 20, deepAfter := 50, enabled := true }
          helloReply := none, control := [], idleTimer := none, deepTimer := none, parkReplyTimer := none, wakeTimer := none
          wakePending := false, deepParkDue := false, bridgeWake := false, counters := ⟨0, 0, 0, 0, 0, 0, 0⟩, queue := [], held := []
          creditLimit := none, availableCredit := 0, enqueueSeq := 0, slot := none, readPos := 0, sending := none }) ∧
      (∀ p n, t.node p n = { presence := .unknown, quietTimer := none, probeWaiting := false }) ∧
      (∀ p, t.port p =
        { link := decide (p ∈ ports), quietTime := 40, framesAccepted := 0, framesDiscarded := 0, duplicates := 0, missedRaises := 0
          sendList := if p ∈ ports then [.rollcall] else [], sending := none }) ∧
      (∀ kind, kind ≠ .portLink → t.notice kind = { isSet := false, sent := false, detail := 0, repeats := 0 }) ∧
      (ports = [] → t.notice .portLink = { isSet := false, sent := false, detail := 0, repeats := 0 }) ∧
      (∀ p rest, ports = p :: rest →
        t.notice .portLink = { isSet := true, sent := false, detail := 4 + p.val, repeats := rest.length }) ∧
      t.pointer = 7 ∧ t.restart = .no ∧ t.staging = [] ∧ t.owner = none ∧ t.manager = 0 ∧
      t.sweep = { running := false, position := 0, faultsFound := 0, visitTimer := none }

/-! ### Management -/

/-- R147: the engine serves the request of the first lane with a full slot, from the lane after the pointer round to the pointer, and none while a restart is pending. -/
def Obligations.EngineServesRoundRobin : Prop :=
  ∀ (s : State) (k : LaneId) (r : Request),
    nextRequest s = some (k, r) ↔
      s.restart = .no ∧ (s.lane k).slot = some r ∧
      ∀ j : LaneId, (j - s.pointer - 1).val < (k - s.pointer - 1).val → (s.lane j).slot = none

/-- R148, R149, R151: FULL rights allow every operation, OBSERVE the reads, NONE nothing. An unknown operation is refused REFUSED_UNKNOWN; a lane with NONE rights, or with OBSERVE rights for a write operation, is refused REFUSED_RIGHTS; an operation that takes operands and has none is refused REFUSED_RANGE. A refusal changes nothing but
the engine's slot and pointer and the response it places. -/
def Obligations.RequestsAreRefusedWithoutEffect : Prop :=
  ∀ (s : State) (k : LaneId) (r : Request), nextRequest s = some (k, r) →
    (∀ write x, permitted write x = true ↔ x = .full ∨ (x = .observe ∧ write = false)) ∧
    ((r.op = 0 ∨ 21 < r.op.toNat) → ∃ t, exec .refusedUnknown s = .next t ∧
      t.still = (answered k r .refusedUnknown [] { s with pointer := k }).still) ∧
    (∀ c code write, serviceCode c = some (code, write) → r.op.toNat = code →
      ((s.lane k).settings.rights = .none ∨ (s.lane k).settings.rights = .observe ∧ write = true →
        ∃ t, exec c s = .next t ∧ t.still = (answered k r .refusedRights [] { s with pointer := k }).still) ∧
      ((s.lane k).settings.rights = .full ∨ (s.lane k).settings.rights = .observe ∧ write = false →
        takesOperands c = true → r.args = [] →
        ∃ t, exec c s = .next t ∧ t.still = (answered k r .refusedRange [] { s with pointer := k }).still))

/-- R148, R25, R50, R139, R109, R47, R167, R168, R155, R158, R159, R186, R160, R93, R199: an operation whose operands are missing from the payload, all or some of them, or outside their ranges is refused REFUSED_RANGE, and nothing but the engine's slot, its pointer and the response
placed changes. -/
def Obligations.OperandsOutOfRangeAreRefused : Prop :=
  ∀ (s : State) (k : LaneId) (r : Request) (w : Bool) (a b c d e f : Byte) (rest : List Byte),
    let refused : Instr → Nat → Bool → Prop := fun op code write => Serves s k r code write →
      ∃ t, exec op s = .next t ∧ t.still = (answered k r .refusedRange [] { s with pointer := k }).still
    (r.args.length < 1 →
      refused .readGroup 0x03 false ∧ refused (.readLane w) 0x04 false ∧ refused .readPort 0x06 false ∧ refused .setManager 0x10 true ∧
      refused .clearNotices 0x11 true) ∧
    (r.args.length < 2 →
      refused .readEntry 0x02 false ∧ refused .readNode 0x05 false ∧ refused .setPort 0x0F true ∧ refused .clearCounters 0x12 true ∧
      refused .forceRetire 0x13 true) ∧
    (r.args.length < 5 → refused .setLane 0x0E true ∧ refused .stageEntry 0x0A true) ∧
    (r.args.length < 6 → refused .stageGroup 0x0B true) ∧
    (r.args = a :: rest →
      (16 ≤ a.toNat → refused .readGroup 0x03 false) ∧
      (8 ≤ a.toNat → refused (.readLane w) 0x04 false ∧ refused .setManager 0x10 true) ∧
      (4 ≤ a.toNat → refused .readPort 0x06 false) ∧
      (rest.length < a.toNat ∨ (∃ x ∈ rest.take a.toNat, x = 0 ∨ 10 < x.toNat) → refused .clearNotices 0x11 true)) ∧
    (r.args = a :: b :: rest →
      (512 ≤ a.toNat * 256 + b.toNat → refused .readEntry 0x02 false ∧ refused .forceRetire 0x13 true) ∧
      (4 ≤ a.toNat ∨ 64 ≤ b.toNat → refused .readNode 0x05 false) ∧
      (4 ≤ a.toNat ∨ b = 0 → refused .setPort 0x0F true) ∧
      (2 ≤ a.toNat ∨ (a = 0 ∧ 8 ≤ b.toNat) ∨ (a = 1 ∧ 4 ≤ b.toNat) → refused .clearCounters 0x12 true)) ∧
    (r.args = a :: b :: c :: d :: e :: rest →
      (8 ≤ a.toNat ∨ 2 < b.toNat ∨ 1 < e.toNat ∨ (c ≠ 0 ∧ d ≠ 0 ∧ d.toNat * 10 ≤ c.toNat) → refused .setLane 0x0E true) ∧
      (512 ≤ a.toNat * 256 + b.toNat ∨ 2 ≤ c.toNat / 64 ∨ 2 ≤ c.toNat / 16 % 4 ∨ 16 ≤ d.toNat →
        refused .stageEntry 0x0A true)) ∧
    (r.args = a :: b :: c :: d :: e :: f :: rest →
      let slots := [c, d, e, f].flatMap fun x => [x.toNat / 16, x.toNat % 16]
      (16 ≤ a.toNat ∨ 2 ≤ b.toNat / 64 ∨ 8 < b.toNat % 16 ∨ (∃ x ∈ slots.take (b.toNat % 16), 8 ≤ x) ∨
        ¬ (slots.take (b.toNat % 16)).Nodup → refused .stageGroup 0x0B true))

/-- R25, R47, R50, R80, R109, R139, R153, R154, R170, R185, R193, R199: each read is answered DONE with the values of the thing it reads as they stand at its service, and changes nothing else; READ_STAGING also moves the reader's own read position.
The states are coded by their place in their tables, with the lane state's codes as R199 lists them; no owner is FFh. A stopped quiet timer reads 0, and a running one its milliseconds left, rounded up. The notices stand in kind-number order.
The codes of a link state and of a wake signal are read from the order of their tables (notes/assumptions/8.md). That READ_LANE carries the level of the host wake input is the model's choice (notes/assumptions/3.md); that it reports the requesting
lane's own slot as full (notes/assumptions/14.md) and that READ_NODE reports at least 1 ms of a running timer (notes/assumptions/18.md) are read from R139, R149 and R109. -/
def Obligations.ReadsReportAndChangeNothing : Prop :=
  ∀ (s : State) (k : LaneId) (r : Request),
    let done : List Byte → State := fun data => (answered k r .done data { s with pointer := k }).still
    (∀ n x, [Rights.none, .observe, .full][n]? = some x → rightsCode x = oneByte n) ∧
    (∀ n x, [LaneState.disabled, .down, .active, .parking .doze, .parking .deep, .doze, .deep, .waking][n]? = some x →
      laneStateCode x = oneByte n) ∧
    (∀ n x, [Presence.unknown, .present, .doubted, .absent][n]? = some x → presenceCode x = oneByte n) ∧
    (yesNo true = 0x01 ∧ yesNo false = 0x00 ∧ linkCode true = 0x00 ∧ linkCode false = 0x01 ∧ signalCode true = 0x00 ∧
      signalCode false = 0x01) ∧
    (laneOrNone none = 0xFF ∧ ∀ j, laneOrNone (some j) = oneByte j) ∧
    (remainingMs none = 0 ∧ remainingMs (some 0) = 1 ∧
      ∀ t m, 1 ≤ t → (remainingMs (some t) = m ↔ t ≤ m * 1000 ∧ m * 1000 < t + 1000)) ∧
    (∀ j, ∃ bound : List EntryIdx, bound.Nodup ∧ (∀ i, i ∈ bound ↔ ∃ v, (s.entry i).state = .outstanding j v) ∧
      boundCount s j = bound.length) ∧
    noticeKinds = [.nodeArrived, .nodeLost, .portLink, .laneDown, .entryStranded, .strayRetire, .creditOverrun, .tableFault,
      .sweepDone, .countSaturated] ∧
    (Serves s k r 0x01 false → ∃ t, exec .identify s = .next t ∧
      t.still = done [0x03, 0xA7, 0x48, 0x16, 2, 4, 8, 0x02, 0x00, 16, 32, 16, oneByte k, rightsCode (s.lane k).settings.rights]) ∧
    (∀ hi lo rest, ∀ i : EntryIdx, Serves s k r 0x02 false → r.args = hi :: lo :: rest → hi.toNat * 256 + lo.toNat = i.val →
      ∃ t, exec .readEntry s = .next t ∧
        t.still = done ([hi, lo] ++ imageBytes (s.entry i).image ++ dynamicBytes (s.entry i))) ∧
    (∀ rest, ∀ g : GroupId, Serves s k r 0x03 false → r.args = oneByte g :: rest → ∃ t, exec .readGroup s = .next t ∧
      t.still = done (oneByte g :: groupBytes (s.group g))) ∧
    (∀ rest w, ∀ j : LaneId, Serves s k r 0x04 false → r.args = oneByte j :: rest → ∃ t, exec (.readLane w) s = .next t ∧
      t.still = done (
        [laneStateCode (s.lane j).state, linkCode (s.lane j).link, signalCode w, signalCode (s.lane j).bridgeWake,
          rightsCode (s.lane j).settings.rights, (s.lane j).settings.dozeAfter, (s.lane j).settings.deepAfter,
          yesNo (s.lane j).settings.enabled, oneByte (s.lane j).control.length, yesNo (s.lane j).slot.isSome,
          oneByte (s.lane j).queue.length] ++ twoBytes (s.lane j).held.length ++ twoBytes (boundCount s j) ++
        [match (s.lane j).creditLimit with | some m => oneByte m | none => 0xFF, oneByte (s.lane j).availableCredit] ++
        counterBytes (s.lane j).counters)) ∧
    (∀ rest, ∀ p : Port, ∀ n : Node, Serves s k r 0x05 false → r.args = oneByte p :: oneByte n :: rest →
      ∃ t, exec .readNode s = .next t ∧
        t.still = done [presenceCode (s.node p n).presence, yesNo (s.node p n).quietTimer.isSome,
          oneByte (remainingMs (s.node p n).quietTimer), yesNo (s.node p n).probeWaiting]) ∧
    (∀ rest, ∀ p : Port, Serves s k r 0x06 false → r.args = oneByte p :: rest → ∃ t, exec .readPort s = .next t ∧
      t.still = done ([linkCode (s.port p).link, (s.port p).quietTime] ++ fourBytes (s.port p).framesAccepted ++
        fourBytes (s.port p).framesDiscarded ++ fourBytes (s.port p).duplicates ++ fourBytes (s.port p).missedRaises)) ∧
    (Serves s k r 0x07 false → ∃ t, exec .readNotices s = .next t ∧
      t.still = done (oneByte s.manager :: noticeKinds.flatMap fun kind => noticeBytes (s.notice kind))) ∧
    (Serves s k r 0x09 false → ∃ t, exec .readSweep s = .next t ∧
      t.still = done (yesNo s.sweep.running :: (twoBytes s.sweep.position ++ twoBytes s.sweep.faultsFound))) ∧
    (Serves s k r 0x08 false → ∃ t, exec .readStaging s = .next t ∧
      let portion := (s.staging.drop (s.lane k).readPos).take 8
      t.still = (answered k r .done
        ([laneOrNone s.owner, oneByte s.staging.length, oneByte (s.lane k).readPos] ++ portion.flatMap stagedBytes)
        ({ s with pointer := k }.modLane k fun l =>
          { l with readPos :=
              if s.staging.length ≤ l.readPos + portion.length then 0 else l.readPos + portion.length })).still)

/-- R169, R171, R170: a staged record from a lane that is not the owner is refused; one for a target on the list replaces it in place; one for a new target is refused on a full list and else appended, the lane becoming owner of a list that was empty. Two records have one target when both are for the same entry or both for the same group. DISCARD empties the list and
its ownership. Every change of the list sets every read position to 0. -/
def Obligations.StagingListOperations : Prop :=
  ∀ (s : State) (k : LaneId) (r : Request) (rec : StagedRecord),
    let b := { s with pointer := k }
    let rewound := b.mapLanes fun _ l => { l with readPos := 0 }
    (∀ x y, sameTarget x y = true ↔
      (∃ i v w, x = .entry i v ∧ y = .entry i w) ∨ (∃ g v w, x = .group g v ∧ y = .group g w)) ∧
    (∀ c, (c = .stageEntry ∧ Serves s k r 0x0A true ∧ stageEntryOperand r.args = some rec) ∨
        (c = .stageGroup ∧ Serves s k r 0x0B true ∧ stageGroupOperand r.args = some rec) →
      (∀ j, s.owner = some j → j ≠ k → ∃ t, exec c s = .next t ∧ t.still = (answered k r .refusedStagingOwned [] b).still) ∧
      (s.owner = none ∨ s.owner = some k →
        (∀ front old back, s.staging = front ++ old :: back → sameTarget rec old = true →
          (∀ x ∈ front, sameTarget rec x = false) → ∃ t, exec c s = .next t ∧
            t.still = (answered k r .done [oneByte front.length, oneByte s.staging.length]
              { rewound with staging := front ++ rec :: back }).still) ∧
        ((∀ x ∈ s.staging, sameTarget rec x = false) → 16 ≤ s.staging.length →
          ∃ t, exec c s = .next t ∧ t.still = (answered k r .refusedStagingFull [] b).still) ∧
        ((∀ x ∈ s.staging, sameTarget rec x = false) → s.staging.length < 16 →
          ∃ t, exec c s = .next t ∧
            t.still = (answered k r .done [oneByte s.staging.length, oneByte (s.staging.length + 1)]
              { rewound with
                staging := s.staging ++ [rec], owner := if s.staging = [] then some k else s.owner }).still))) ∧
    (Serves s k r 0x0D true →
      (s.staging = [] → ∃ t, exec .discard s = .next t ∧ t.still = (answered k r .refusedNoStaging [] b).still) ∧
      (∀ j, s.staging ≠ [] → s.owner = some j → j ≠ k →
        ∃ t, exec .discard s = .next t ∧ t.still = (answered k r .refusedStagingOwned [] b).still) ∧
      (s.staging ≠ [] → s.owner = some k → ∃ t, exec .discard s = .next t ∧
        t.still = (answered k r .done [oneByte s.staging.length] { rewound with staging := [], owner := none }).still))

/-- R172, R173: a COMMIT of an empty list, of another lane's list, or of a list whose first failing record breaks a commit rule is refused and changes nothing; the last answers that record's position and reason. An OPEN entry record fails on vector 0, then on a group whose list
is empty after the commit; a group record with an empty list fails when an entry that is not staged is OPEN and names the group. Every other record passes: a MASKED entry, an OPEN one with a vector and a group whose list is not empty after the commit, a group record with a list, and an emptied group that no such entry names.
The post-commit Group Table has a staged record's content where the group is staged and the group's record where not. -/
def Obligations.CommitIsRefusedWhole : Prop :=
  ∀ (s : State) (k : LaneId) (r : Request),
    (∀ g c front back, s.staging = front ++ .group g c :: back → (∀ d, StagedRecord.group g d ∉ front) → postGroup s g = c) ∧
    (∀ g, (∀ c, StagedRecord.group g c ∉ s.staging) → postGroup s g = s.group g) ∧
    (∀ i (img : Image), recordFault s (.entry i img) = none ↔
      img.mask = .masked ∨ (img.vector ≠ 0 ∧ (postGroup s img.group).lanes ≠ [])) ∧
    (∀ g (c : Group), recordFault s (.group g c) = none ↔
      c.lanes ≠ [] ∨ ∀ i, (s.entry i).workMask = .opened → (s.entry i).image.group = g →
        ∃ img, StagedRecord.entry i img ∈ s.staging) ∧
    (Serves s k r 0x0C true →
      let b := { s with pointer := k }
      (s.staging = [] → ∃ t, exec .commit s = .next t ∧ t.still = (answered k r .refusedNoStaging [] b).still) ∧
      (∀ j, s.staging ≠ [] → s.owner = some j → j ≠ k →
        ∃ t, exec .commit s = .next t ∧ t.still = (answered k r .refusedStagingOwned [] b).still) ∧
      (∀ front x back, s.staging = front ++ x :: back → s.owner = some k → (∀ y ∈ front, recordFault s y = none) →
        let refusal : Byte → Prop := fun reason => ∃ t, exec .commit s = .next t ∧
          t.still = (answered k r .refusedValidation [oneByte front.length, reason] b).still
        (∀ i img, x = .entry i img → img.mask = .opened →
          (img.vector = 0 → refusal 1) ∧
          (img.vector ≠ 0 → (postGroup s img.group).lanes = [] → refusal 2)) ∧
        (∀ g, ∀ c : Group, x = .group g c → c.lanes = [] →
          (∃ i, (s.entry i).workMask = .opened ∧ (s.entry i).image.group = g ∧ ∀ img, StagedRecord.entry i img ∉ s.staging) →
          refusal 3)))

/-- R174 to R178, R60: a COMMIT that passes validation writes the groups; then each staged entry in list order, with a fresh check code, the working mask and trigger, and the quarantine flag cleared, each settled before the next, offered under its new configuration where R176 to R178 offer it;
then offers the STRANDED entries of the written groups that it did not write, in ascending index; then empties the list, its ownership and the read positions; and answers the number of records. It writes nothing else, keeps every line level and raise count, and keeps a binding exactly where the new
trigger is LEVEL.
The form of the check code is the model's (notes/assumptions/4.md). -/
def Obligations.CommitWritesEveryStagedRecord : Prop :=
  ∀ (s : State) (k : LaneId) (r : Request), Serves s k r 0x0C true → s.staging ≠ [] → s.owner = some k →
    StagingSound s → PlacementSound s → (∀ x ∈ s.staging, recordFault s x = none) →
    let settled : EntryIdx → Image → State → State := fun i img u =>
      let e := u.entry i
      let w := u.modEntry i fun x =>
        { x with
          image := img, code := { image := img, index := i }, workMask := img.mask, workTrigger := img.trigger
          quarantined := false }
      let offered : Nat → State → State := fun n x => offer i (x.modEntry i fun y => { y with pendingCount := n })
      let idle : State → State := fun x => x.modEntry i fun y => { y with state := .idle, pendingCount := 0 }
      match e.state with
      | .idle => if img.trigger = .level ∧ img.mask = .opened ∧ e.line = true then offered 1 w else w
      | .outstanding _ _ => if img.trigger = .level then w else if e.line = true then offered 1 (idle w) else idle w
      | .latched | .stranded | .queued _ | .held _ =>
        let count := if e.workTrigger = .edge ∧ img.trigger = .level then (if e.line = true then 1 else 0) else e.pendingCount
        if count = 0 then idle (withdraw i w) else offered count (withdraw i w)
    let grouped := s.staging.foldl (fun u x => match x with | .group g c => u.setGroup g c | .entry _ _ => u) { s with pointer := k }
    let written := s.staging.foldl (fun u x => match x with | .entry i img => settled i img u | .group _ _ => u) grouped
    ∃ t, ∃ stranded : List EntryIdx, exec .commit s = .next t ∧
      stranded.Pairwise (· < ·) ∧
      (∀ i, i ∈ stranded ↔ (written.entry i).state = .stranded ∧
        (∃ c, StagedRecord.group (written.entry i).image.group c ∈ s.staging) ∧ ∀ img, StagedRecord.entry i img ∉ s.staging) ∧
      t.still = (answered k r .done [oneByte s.staging.length]
        { (stranded.foldl (fun u i => offer i u) written).mapLanes (fun _ l => { l with readPos := 0 }) with staging := [], owner := none }).still ∧
      (∀ g c, StagedRecord.group g c ∈ s.staging → t.group g = c) ∧
      (∀ g, (∀ c, StagedRecord.group g c ∉ s.staging) → t.group g = s.group g) ∧
      (∀ i img, StagedRecord.entry i img ∈ s.staging →
        (t.entry i).image = img ∧ (t.entry i).code = { image := img, index := i } ∧ (t.entry i).workMask = img.mask ∧
        (t.entry i).workTrigger = img.trigger ∧ (t.entry i).quarantined = false ∧
        (∀ j v, (s.entry i).state = .outstanding j v →
          (img.trigger = .level → (t.entry i).state = .outstanding j v) ∧
          (img.trigger = .edge → (s.entry i).line = false → (t.entry i).state = .idle) ∧
          (img.trigger = .edge → (s.entry i).line = true → (t.entry i).state.waits = true ∧ (t.entry i).pendingCount = 1)) ∧
        ((s.entry i).state.waits = true → (s.entry i).pendingCount ≠ 0 →
          ((s.entry i).workTrigger = .edge → img.trigger = .level →
            ((s.entry i).line = false → (t.entry i).state = .idle ∧ (t.entry i).pendingCount = 0) ∧
            ((s.entry i).line = true → (t.entry i).state.waits = true ∧ (t.entry i).pendingCount = 1)) ∧
          ((s.entry i).workTrigger = .level ∨ img.trigger = .edge →
            (t.entry i).state.waits = true ∧ (t.entry i).pendingCount = (s.entry i).pendingCount)) ∧
        ((s.entry i).state = .idle →
          (img.trigger = .level ∧ img.mask = .opened ∧ (s.entry i).line = true →
            (t.entry i).state.waits = true ∧ (t.entry i).pendingCount = 1) ∧
          (img.trigger = .edge ∨ img.mask = .masked ∨ (s.entry i).line = false →
            (t.entry i).state = .idle ∧ (t.entry i).pendingCount = (s.entry i).pendingCount)) ∧
        (img.mask = .masked → (t.entry i).state = .idle ∨ (t.entry i).state = .latched ∨
          ∃ j v, (t.entry i).state = .outstanding j v)) ∧
      (∀ i, (∀ img, StagedRecord.entry i img ∉ s.staging) →
        (t.entry i).image = (s.entry i).image ∧ (t.entry i).code = (s.entry i).code ∧
        (t.entry i).workMask = (s.entry i).workMask ∧ (t.entry i).workTrigger = (s.entry i).workTrigger ∧
        (t.entry i).pendingCount = (s.entry i).pendingCount) ∧
      (∀ i, (t.entry i).line = (s.entry i).line ∧ (t.entry i).raiseCount = (s.entry i).raiseCount) ∧
      t.staging = [] ∧ t.owner = none ∧ (∀ j, (t.lane j).readPos = 0) ∧
      (t.lane k).slot = none ∧
      (t.lane k).control = (s.lane k).control ++
        [{ tag := r.tag, op := r.op, outcome := .done, data := [oneByte s.staging.length] }] ∧
      t.nodes = s.nodes ∧ t.ports = s.ports ∧ t.sweep = s.sweep ∧ t.manager = s.manager

/-- R155 to R157, R116: SET_LANE with operands in range is refused REFUSED_SELF when it would disable the requesting lane, then REFUSED_LAST_MANAGER when no lane would keep enabled yes and rights FULL. Otherwise it writes the four settings: a live lane disabled is lost with cause
DISABLED, whose effects LaneLossMovesTheLanesWork gives, a DOWN lane disabled becomes DISABLED, a DISABLED lane enabled becomes DOWN; each is answered DONE on the requesting lane. -/
def Obligations.SetLaneWritesTheSettings : Prop :=
  ∀ (s : State) (k j : LaneId) (st : LaneSettings) (r : Request) (rest : List Byte), Serves s k r 0x0E true →
    r.args = oneByte j :: (match st.rights with | .none => 0x00 | .observe => 0x01 | .full => 0x02) :: st.dozeAfter :: st.deepAfter ::
      (if st.enabled then 0x01 else 0x00) :: rest →
    (st.dozeAfter = 0 ∨ st.deepAfter = 0 ∨ st.dozeAfter.toNat < st.deepAfter.toNat * 10) →
    let b := { s with pointer := k }
    let keeps := ∃ m, (if m = j then st else (s.lane m).settings).enabled = true ∧
      (if m = j then st else (s.lane m).settings).rights = .full
    (j = k → st.enabled = false → ∃ t, exec .setLane s = .next t ∧ t.still = (answered k r .refusedSelf [] b).still) ∧
    ((j ≠ k ∨ st.enabled = true) → ¬ keeps →
      ∃ t, exec .setLane s = .next t ∧ t.still = (answered k r .refusedLastManager [] b).still) ∧
    ((j ≠ k ∨ st.enabled = true) → keeps →
      ((s.lane j).settings.enabled = st.enabled → ∃ t, exec .setLane s = .next t ∧
        t.still = (answered k r .done [] (b.modLane j fun l => { l with settings := st })).still) ∧
      ((s.lane j).settings.enabled = false → st.enabled = true → (s.lane j).state = .disabled →
        ∃ t, exec .setLane s = .next t ∧
          t.still = (answered k r .done [] (b.modLane j fun l => { l with settings := st, state := .down })).still) ∧
      ((s.lane j).settings.enabled = true → st.enabled = false → (s.lane j).state = .down →
        ∃ t, exec .setLane s = .next t ∧
          t.still = (answered k r .done [] (b.modLane j fun l =>
            { l with settings := st, state := .disabled, helloReply := none })).still) ∧
      ((s.lane j).settings.enabled = true → st.enabled = false → s.live j = true → PlacementSound s →
        ∃ t, exec .setLane s = .next t ∧
          t.still = (answered k r .done [] (laneLoss j .disabled (b.modLane j fun l => { l with settings := st }))).still ∧
          (t.lane k).control = (s.lane k).control ++ [{ tag := r.tag, op := r.op, outcome := .done, data := [] }] ∧
          (∀ i, (s.entry i).state = .queued j ∨ (s.entry i).state = .held j →
            (t.entry i).pendingCount = (s.entry i).pendingCount ∧
            ((t.entry i).state = .latched ∨ (t.entry i).state = .stranded ∨
              ∃ m, m ≠ j ∧ s.live m = true ∧ ((t.entry i).state = .queued m ∨ (t.entry i).state = .held m))) ∧
          (∀ i v, (s.entry i).state = .outstanding j v →
            ((s.entry i).line = false → (t.entry i).state = .idle ∧ (t.entry i).pendingCount = 0) ∧
            ((s.entry i).line = true → (t.entry i).state.waits = true ∧ (t.entry i).pendingCount = 1)) ∧
          (∀ i, (s.entry i).state ≠ .queued j → (s.entry i).state ≠ .held j → (∀ v, (s.entry i).state ≠ .outstanding j v) →
            t.entry i = s.entry i) ∧
          t.lane j = { s.lane j with
            settings := st, state := .disabled, helloReply := none, control := [], idleTimer := none, deepTimer := none
            parkReplyTimer := none, wakeTimer := none, wakePending := false, deepParkDue := false, bridgeWake := false
            queue := [], held := [], creditLimit := none, availableCredit := 0, slot := none, readPos := 0, sending := none } ∧
          (∀ i v, (t.entry i).state ≠ .outstanding j v) ∧ t.owner ≠ some j ∧ t.notice .laneDown = s.notice .laneDown))

/-- R158 to R161, R186, R190: the other settings. SET_PORT writes a quiet time; SET_MANAGER makes a lane manager, which with a kind unsent is work to send on it; CLEAR_COUNTERS zeroes one lane's or one port's counters; CLEAR_NOTICES reports the named kinds in kind-number order and clears them; START_SWEEP
is refused while a sweep runs and else starts one; RESTART makes restart pending. Each is answered DONE and changes nothing else. -/
def Obligations.OtherSettingsAreWritten : Prop :=
  ∀ (s : State) (k : LaneId) (r : Request) (rest : List Byte),
    let b := { s with pointer := k }
    (∀ q, ∀ p : Port, Serves s k r 0x0F true → r.args = oneByte p :: q :: rest → q ≠ 0 → ∃ t, exec .setPort s = .next t ∧
      t.still = (answered k r .done [] (b.modPort p fun x => { x with quietTime := q })).still) ∧
    (∀ j : LaneId, Serves s k r 0x10 true → r.args = oneByte j :: rest → j ≠ s.manager →
      ((∀ kind, (s.notice kind).isSet = false ∨ (s.notice kind).sent = true) → ∃ t, exec .setManager s = .next t ∧
        t.still = (answered k r .done [] { b with manager := j }).still) ∧
      ((∃ kind, (s.notice kind).isSet = true ∧ (s.notice kind).sent = false) → ∃ t, exec .setManager s = .next t ∧
        t.still = (answered k r .done [] ({ b with manager := j }.workToSend j)).still)) ∧
    (Serves s k r 0x10 true → r.args = oneByte s.manager :: rest → ∃ t, exec .setManager s = .next t ∧
      t.still = (answered k r .done [] b).still) ∧
    (∀ j : LaneId, Serves s k r 0x12 true → r.args = 0 :: oneByte j :: rest → ∃ t, exec .clearCounters s = .next t ∧
      t.still = (answered k r .done [] (b.modLane j fun l => { l with counters := ⟨0, 0, 0, 0, 0, 0, 0⟩ })).still) ∧
    (∀ p : Port, Serves s k r 0x12 true → r.args = 1 :: oneByte p :: rest → ∃ t, exec .clearCounters s = .next t ∧
      t.still = (answered k r .done [] (b.modPort p fun x =>
        { x with framesAccepted := 0, framesDiscarded := 0, duplicates := 0, missedRaises := 0 })).still) ∧
    (∀ kinds : List NoticeKind, Serves s k r 0x11 true → kinds.length < 256 →
      r.args = oneByte kinds.length :: (kinds.map fun x => oneByte x.number) ++ rest → ∃ t, exec .clearNotices s = .next t ∧
        (∀ x, t.notice x = if x ∈ kinds then NoticeRecord.clear else s.notice x) ∧
        { t.still with notices := s.notices } = (answered k r .done
          ((noticeKinds.filter fun x => decide (x ∈ kinds)).flatMap fun x => noticeBytes (s.notice x)) b).still) ∧
    (Serves s k r 0x14 true →
      (s.sweep.running = true → ∃ t, exec .startSweep s = .next t ∧
        t.still = (answered k r .refusedInProgress [] b).still) ∧
      (s.sweep.running = false → ∃ t, exec .startSweep s = .next t ∧
        t.still = (answered k r .done []
          { b with sweep := { running := true, position := 0, faultsFound := 0, visitTimer := some 40 } }).still)) ∧
    (Serves s k r 0x15 true → ∃ t, exec .restart s = .next t ∧
      t.still = (answered k r .done [] { b with restart := .awaitingDone k }).still)

/-- R93, R89: FORCE_RETIRE of an entry that is not OUTSTANDING is refused REFUSED_STATE; of an OUTSTANDING entry it removes the binding and settles the entry by its line, IDLE or offered with pending count 1, and answers the released lane and vector and the state the entry took. -/
def Obligations.ForceRetireReleasesOneEntry : Prop :=
  ∀ (s : State) (k : LaneId) (r : Request) (hi lo : Byte) (rest : List Byte) (i : EntryIdx), Serves s k r 0x13 true →
    r.args = hi :: lo :: rest → hi.toNat * 256 + lo.toNat = i.val →
    let b := { s with pointer := k }
    ((∀ j v, (s.entry i).state ≠ .outstanding j v) → ∃ t, exec .forceRetire s = .next t ∧
      t.still = (answered k r .refusedState [] b).still) ∧
    (∀ j v, (s.entry i).state = .outstanding j v → (s.entry i).line = false → ∃ t, exec .forceRetire s = .next t ∧
      t.still = (answered k r .done [oneByte j, v, 0]
        (b.modEntry i fun e => { e with state := .idle, pendingCount := 0 })).still) ∧
    (∀ j v, (s.entry i).state = .outstanding j v → (s.entry i).line = true → ∃ t, exec .forceRetire s = .next t ∧
      let u := offer i (b.modEntry i fun e => { e with state := .idle, pendingCount := 1 })
      t.still = (answered k r .done [oneByte j, v, deliveryCode (u.entry i).state] u).still)

/-- R191, R192, R20: a visit of an entry whose image matches its check code, or that is quarantined already, changes nothing at it; a mismatch on any other is a finding: the entry is flagged, a QUEUED or HELD one is withdrawn, its waiting condition is LATCHED with its count kept, a binding is kept, then TABLE_FAULT is raised with its index, and faults found is
increased. The position then goes up by 1 and the timer starts again; after entry 511 the sweep ends, and SWEEP_DONE is raised with the faults found.
The form of the check code is the model's (notes/assumptions/4.md); that the raise comes after the withdrawal and its promotion is read from the order of R20 (notes/assumptions/12.md). -/
def Obligations.SweepVisitsChecksAndEnds : Prop :=
  ∀ (s : State) (i : EntryIdx), s.sweep.visitTimer.isSome = true → s.sweep.running = true → s.sweep.position = i.val →
    (((s.entry i).code = { image := (s.entry i).image, index := i } ∨ (s.entry i).quarantined = true) →
      (i.val < 511 → ∃ t, exec .sweepVisit s = .next t ∧
        t.still = { s with sweep := { s.sweep with position := i.val + 1, visitTimer := some 40 } }.still) ∧
      (i.val = 511 → ∃ t, exec .sweepVisit s = .next t ∧
        t.still = (raiseNotice .sweepDone s.sweep.faultsFound
          { s with sweep := { s.sweep with position := 512, running := false, visitTimer := none } }).still)) ∧
    ((s.entry i).code ≠ { image := (s.entry i).image, index := i } → (s.entry i).quarantined = false → PlacementSound s →
      let flagged := s.modEntry i fun e => { e with quarantined := true }
      let latched : State → State := fun u => u.modEntry i fun e => { e with state := .latched }
      let settled :=
        match (s.entry i).state with
        | .queued _ | .held _ => latched (withdraw i flagged)
        | .stranded => latched flagged
        | .latched | .idle | .outstanding _ _ => flagged
      let found := raiseNotice .tableFault i.val settled
      let faults := s.sweep.faultsFound + 1
      ∃ t, exec .sweepVisit s = .next t ∧
        (i.val < 511 → t.still =
          { found with sweep := { running := true, position := i.val + 1, faultsFound := faults, visitTimer := some 40 } }.still) ∧
        (i.val = 511 → t.still = (raiseNotice .sweepDone faults
          { found with sweep := { running := false, position := 512, faultsFound := faults, visitTimer := none } }).still) ∧
        t.sweep = { running := decide (i.val < 511), position := i.val + 1, faultsFound := faults
                    visitTimer := if i.val < 511 then some 40 else none } ∧
        ((∀ k, (s.entry i).state ≠ .queued k) → t.notice .tableFault = (raiseNotice .tableFault i.val s).notice .tableFault) ∧
        ((s.notice .tableFault).isSet = true →
          (t.notice .tableFault).detail = (s.notice .tableFault).detail ∧
          min 255 ((s.notice .tableFault).repeats + 1) ≤ (t.notice .tableFault).repeats) ∧
        (i.val = 511 → t.notice .sweepDone = (raiseNotice .sweepDone faults s).notice .sweepDone) ∧
        (t.entry i).quarantined = true ∧ (t.entry i).pendingCount = (s.entry i).pendingCount ∧
        ((s.entry i).state.waits = true → (t.entry i).state = .latched) ∧
        ((s.entry i).state.waits = false → (t.entry i).state = (s.entry i).state) ∧
        (t.notice .tableFault).isSet = true ∧ t.sweep.faultsFound = s.sweep.faultsFound + 1 ∧
        t.sweep.position = i.val + 1 ∧ t.sweep.running = decide (i.val < 511) ∧
        (i.val = 511 → (t.notice .sweepDone).isSet = true))

/-! ### The laws of the whole part, kept by every step from every state that has them -/

/-- R165: the law of the staging list is kept by every step. -/
def Obligations.StagingLawIsKept : Prop :=
  ∀ (s t : State), StagingSound s → step s = .next t → StagingSound t

/-- R156, with R113's meaning of DISABLED: at least one lane that is not DISABLED has FULL rights, in every state that a step reaches from one that has it. -/
def Obligations.ManagerLawIsKept : Prop :=
  ∀ (s t : State), EnabledSound s → ManagerKept s → step s = .next t →
    EnabledSound t ∧ ManagerKept t ∧ ∃ k, (t.lane k).state ≠ .disabled ∧ (t.lane k).settings.rights = .full

/-- R78, R64, R145: available credit is never above the limit and is 0 while the lane is DOWN or DISABLED, a limit of 1 to 64 is held exactly while the lane is live, and the count of taken places never exceeds 4. -/
def Obligations.LaneAccountsAreKept : Prop :=
  ∀ (s t : State), step s = .next t → (CreditSound s → CreditSound t) ∧ (PlacesSound s → PlacesSound t)

/-- R8: an entry has one item in one Delivery Queue exactly when it is QUEUED there and stands on one held list exactly when it is HELD there: kept by every step. -/
def Obligations.PlacementLawIsKept : Prop :=
  ∀ (s t : State), PlacementSound s → step s = .next t → PlacementSound t

/-- R66, R67, R68, R86, R113: a Delivery Queue never holds more than 32 items and stands in priority order, a held list is non-empty only while its queue holds 32, and a lane that is not live holds no item, no held entry and no binding: kept by every step. -/
def Obligations.QueueLawsAreKept : Prop :=
  ∀ (s t : State), PlacementSound s → DepthSound s → DownEmpty s → OrderSound s → step s = .next t →
    DepthSound t ∧ DownEmpty t ∧ OrderSound t

/-- R9: the pending count is 0 in IDLE and OUTSTANDING, 1 to 255 in every other state and at most 1 for a LEVEL entry: kept by every step. -/
def Obligations.PendingCountLawIsKept : Prop :=
  ∀ (s t : State), PlacementSound s → PendingSound s → step s = .next t → PendingSound t

/-- R10, R18, R86: a LEVEL entry that is OPEN, not quarantined and asserted is not IDLE, a waiting LEVEL entry is asserted, and an OUTSTANDING entry is LEVEL: kept by every step. -/
def Obligations.LevelLawIsKept : Prop :=
  ∀ (s t : State), PlacementSound s → PendingSound s → TriggerSound s → step s = .next t →
    TriggerSound t ∧
    ∀ i, (t.entry i).workTrigger = .level → (t.entry i).workMask = .opened → (t.entry i).quarantined = false →
      (t.entry i).line = true → (t.entry i).state ≠ .idle

/-- R33, R104: a line whose raise count is UNKNOWN is recorded deasserted, and both lines of a node that is UNKNOWN or ABSENT are recorded deasserted with raise count UNKNOWN: kept by every step. -/
def Obligations.AbsenceLawIsKept : Prop :=
  ∀ (s t : State), step s = .next t →
    (BaselineSound s → BaselineSound t) ∧ (AbsenceSound s → AbsenceSound t)

/-- R181: a clear kind always has sent no, first detail 0 and repeats 0, and repeats never pass 255: kept by every step. -/
def Obligations.NoticeLawIsKept : Prop :=
  ∀ (s t : State), NoticesSound s → step s = .next t → NoticesSound t

/-- The power-on state has every law of the whole part. -/
def Obligations.ResetHasEveryLaw : Prop :=
  StagingSound State.reset ∧ EnabledSound State.reset ∧ ManagerKept State.reset ∧ CreditSound State.reset ∧
  PlacesSound State.reset ∧ PlacementSound State.reset ∧ DepthSound State.reset ∧ DownEmpty State.reset ∧
  OrderSound State.reset ∧ PendingSound State.reset ∧ TriggerSound State.reset ∧ BaselineSound State.reset ∧
  AbsenceSound State.reset ∧ NoticesSound State.reset

/-! ### Frames and images -/

/-- R28 to R30, R195 to R198, chapters 11.1 to 11.4: the bytes of every well-formed frame command, laid out as chapter 11 lays them out, are received as that command. The two check codes are the remainders that R195 and R196 describe, byte by byte and bit by bit. A receiver ignores the bits outside the fields of a field frame; of a lane frame it takes missing payload bytes as 00h and ignores the bytes beyond the layout. Every frame the bridge sends has the kind, the
payload length and the payload of its layout, followed by its check code, and is what stands on the wire while its transmitter sends it.
That State holds the frame in transmission is the model's choice (notes/assumptions/19.md). -/
def Obligations.FramesAreReceivedAsSent : Prop :=
  (∀ (c : Instr) (bytes : List Byte), wellFormed c = true →
    (∀ p, fieldArrival c = some p → fieldWire c = some bytes → receiveField p bytes = c) ∧
    (∀ k w, laneArrival c = some k → laneWire c = some bytes →
      ((∀ v, c = .parkAck k v → v = w) ∧ (∀ v, c = .parkNak k v → v = w)) → receiveLane k w bytes = c)) ∧
  (
    let step8 : Byte → Byte := fun x => if x.getLsbD 7 then (x <<< 1) ^^^ 0x07 else x <<< 1
    let step16 : BitVec 16 → BitVec 16 := fun x => if x.getLsbD 15 then (x <<< 1) ^^^ 0x1021 else x <<< 1
    crc8 [] = 0x00 ∧ crc16 [] = 0xFFFF ∧
    ∀ (bytes : List Byte) (b : Byte),
      crc8 (bytes ++ [b]) = Nat.iterate step8 8 (crc8 bytes ^^^ b) ∧
      crc16 (bytes ++ [b]) = Nat.iterate step16 8 (crc16 bytes ^^^ (b ++ (0 : Byte)))) ∧
  (∀ (p : Port) (n : Node) (b1 b2 : Byte),
    let heard : Nat → List Byte := fun kind => [oneByte (kind * 64 + n.val), b1, b2, crc8 [oneByte (kind * 64 + n.val), b1, b2]]
    let line : Line := if b1.getLsbD 4 then 1 else 0
    receiveField p (heard 0) = .raise p n line (b1.extractLsb' 0 4) ∧
    receiveField p (heard 1) = .drop p n line (b1.extractLsb' 0 4) ∧
    receiveField p (heard 2) = .present p n (b1.getLsbD 4) (b1.extractLsb' 0 4) (b2.getLsbD 4) (b2.extractLsb' 0 4) ∧
    receiveField p (heard 3) = .fieldFrameDiscarded p (heard 3)) ∧
  (∀ (k : LaneId) (w : Bool) (payload : List Byte), payload.length ≤ 60 →
    let received : Byte → Instr := fun kind => receiveLane k w (laneFrameBytes kind payload)
    let first := match payload with | x :: _ => x | [] => 0x00
    received 0x10 = .hello k first ∧ received 0x13 = .goodbye k ∧ received 0x21 = .retire k first ∧ received 0x22 = .credit k first ∧
    received 0x30 = .mgmtRequest k payload ∧ received 0x41 = .parkAck k w ∧ received 0x42 = .parkNak k w ∧ received 0x43 = .ready k) ∧
  (
    let checked8 : List Byte → List Byte := fun body => body ++ [crc8 body]
    PortFrame.rollcall.wire = checked8 [0xFF, 0x02, 0x00] ∧
    ∀ n : Node, (PortFrame.probe n).wire = checked8 [0xC0 ||| oneByte n, 0x01, 0x00]) ∧
  (
    let checked16 : List Byte → List Byte := fun body =>
      body ++ [(crc16 body).extractLsb' 8 8, (crc16 body).extractLsb' 0 8]
    (∀ kind payload, laneFrameBytes kind payload = checked16 (kind :: oneByte payload.length :: payload)) ∧
    (LaneFrame.park .doze).wire = checked16 [0x40, 1, 0x01] ∧
    (LaneFrame.park .deep).wire = checked16 [0x40, 1, 0x02] ∧
    (∀ k : LaneId, (LaneFrame.helloAck k).wire = checked16 [0x11, 6, oneByte k, 0x03, 0xA7, 0x48, 0x16, 0x02]) ∧
    (∀ m, (LaneFrame.helloNak m).wire = checked16 [0x12, 1, m]) ∧
    (∀ (n : Nat) (tag op : Byte) (o : MgmtOutcome) (data : List Byte),
      [MgmtOutcome.done, .refusedBusy, .refusedRights, .refusedRange, .refusedUnknown, .refusedState, .refusedStagingOwned,
        .refusedStagingFull, .refusedNoStaging, .refusedValidation, .refusedLastManager, .refusedSelf, .refusedInProgress][n]? = some o →
      (LaneFrame.response { tag := tag, op := op, outcome := o, data := data }).wire =
        checked16 ([0x31, oneByte (3 + data.length), tag, op, oneByte n] ++ data)) ∧
    (∀ (n detail repeats : Nat) (kind : NoticeKind),
      [NoticeKind.nodeArrived, .nodeLost, .portLink, .laneDown, .entryStranded, .strayRetire, .creditOverrun, .tableFault, .sweepDone,
        .countSaturated][n]? = some kind →
      kind.number = n + 1 ∧ (LaneFrame.notice kind detail repeats).wire =
        checked16 [0x38, 4, oneByte (n + 1), oneByte (detail / 256), oneByte detail, oneByte repeats]) ∧
    (∀ (v : Byte) (p : Port) (n : Node) (l : Line) (prio : Priority) (count : Nat),
      (entryIndex p n l).val = p.val * 128 + n.val * 2 + l.val ∧
      (LaneFrame.event v (entryIndex p n l) prio .edge count).wire =
        checked16 [0x20, 4, v, oneByte (p.val * 64 + n.val), oneByte (prio.val * 16 + l.val), oneByte count] ∧
      (LaneFrame.event v (entryIndex p n l) prio .level count).wire =
        checked16 [0x20, 4, v, oneByte (p.val * 64 + n.val), oneByte (128 + prio.val * 16 + l.val), oneByte count])) ∧
  ∀ (s : State) (p : Port) (k : LaneId),
    (∀ f, (s.port p).sending = some f → portOutput s p = f.wire) ∧ (∀ f, (s.lane k).sending = some f → laneOutput s k = f.wire)

/-- R167, R168, R199 and chapter 11.5: an image of an entry's configuration and of a group record, as the bridge sends them, is staged as the record it is the image of. The bytes of these images, of the dynamic image, of a staged record in a portion, of a notice's record and of the lane counters are those of
their layouts. -/
def Obligations.ImagesAreStagedAsSent : Prop :=
  (∀ (i : EntryIdx) (img : Image) (rest : List Byte),
    stageEntryOperand (twoBytes i ++ imageBytes img ++ rest) = some (.entry i img)) ∧
  (∀ (g : GroupId) (c : Group) (rest : List Byte), c.lanes.Nodup →
    stageGroupOperand (oneByte g :: groupBytes c ++ rest) = some (.group g c)) ∧
  (∀ n : Nat, oneByte n = BitVec.ofNat 8 n ∧ twoBytes n = [oneByte (n / 256), oneByte n]) ∧
  (∀ (img : Image), imageBytes img =
    [oneByte ((match img.mask with | .masked => 0 | .opened => 64) + (match img.trigger with | .edge => 0 | .level => 16) + img.priority.val),
      oneByte img.group.val, img.vector]) ∧
  (∀ (c : Group) (slots : List LaneId), slots = c.lanes ++ List.replicate (8 - c.lanes.length) 0 → c.lanes.length ≤ 8 →
    groupBytes c = oneByte ((match c.policy with | .prefer => 0 | .balance => 64) + c.lanes.length) ::
      [oneByte ((slots[0]?.getD 0).val * 16 + (slots[1]?.getD 0).val), oneByte ((slots[2]?.getD 0).val * 16 + (slots[3]?.getD 0).val),
        oneByte ((slots[4]?.getD 0).val * 16 + (slots[5]?.getD 0).val), oneByte ((slots[6]?.getD 0).val * 16 + (slots[7]?.getD 0).val)]) ∧
  (∀ e : Entry, dynamicBytes e =
    (match e.state with | .idle => 0 | .latched => 1 | .stranded => 2 | .held _ => 3 | .queued _ => 4 | .outstanding _ _ => 5) ::
    oneByte ((if e.line then 128 else 0) + (if e.quarantined then 64 else 0) +
      (match e.raiseCount with | none => 32 | some r => r.toNat)) ::
    oneByte e.pendingCount ::
    (match e.state with
      | .held j | .queued j => [oneByte j, 0x00]
      | .outstanding j v => [oneByte j, v]
      | .idle | .latched | .stranded => [0xFF, 0x00])) ∧
  (∀ (i : EntryIdx) (img : Image), stagedBytes (.entry i img) = [oneByte (i / 256), oneByte i] ++ imageBytes img) ∧
  (∀ (g : GroupId) (c : Group), stagedBytes (.group g c) = oneByte (128 + g) :: groupBytes c) ∧
  (∀ x : NoticeRecord, noticeBytes x =
    [if x.isSet then 0x01 else 0x00, if x.sent then 0x01 else 0x00, oneByte (x.detail / 256), oneByte x.detail, oneByte x.repeats]) ∧
  (∀ n : Counter, fourBytes n =
    [oneByte (n.toNat / 2 ^ 24), oneByte (n.toNat / 2 ^ 16), oneByte (n.toNat / 2 ^ 8), oneByte n.toNat]) ∧
  ∀ x : LaneCounters, counterBytes x =
    fourBytes x.eventsSent ++ fourBytes x.retiresReceived ++ fourBytes x.strayRetires ++ fourBytes x.creditsOverrun ++
      fourBytes x.requestsDropped ++ fourBytes x.framesDiscarded ++ fourBytes x.parksDeclined
end

