-- ==== Sys2Proof/Laws/State.lean ====
section
/-!
SUPPORT. The small lemmas of the state: for each table update, what every field and every read of the state is after it.
-/

namespace Sys2Proof.Machine

variable (s : State)

section rows
variable {α β : Type} {n : Nat}

@[simp] theorem getElem_mapRows (f : α → β) (v : Vector α n) (i : Nat) (h : i < n) : (mapRows f v)[i] = f v[i] := by
  cases v; simp [mapRows]

theorem mem_rowsWhere (p : α → Bool) (v : Vector α n) (i : Fin n) : i ∈ rowsWhere p v ↔ p v[i.val] = true := by
  have hlen : v.toList.length = n := by simp
  simp only [rowsWhere, List.mem_filterMap, Prod.exists, Option.ite_none_right_eq_some, Option.some.injEq]
  constructor
  · rintro ⟨a, b, hab, hp, rfl⟩
    obtain ⟨m, hm, he⟩ := List.mem_iff_getElem.1 hab
    simp only [List.getElem_zip, List.getElem_finRange, Prod.mk.injEq] at he
    obtain ⟨h1, h2⟩ := he
    subst h1; subst h2
    simpa using hp
  · intro hp
    refine ⟨i, v[i.val], List.mem_iff_getElem.2 ⟨i.val, by simp, ?_⟩, hp, rfl⟩
    simp

theorem pairwise_filterMap_fst (p : α → Bool) (l : List (Fin n × α)) (h : (l.map Prod.fst).Pairwise (· < ·)) :
    (l.filterMap (fun r => if p r.2 then some r.1 else none)).Pairwise (· < ·) := by
  induction l with
  | nil => simp
  | cons a t ih =>
    simp only [List.map_cons, List.pairwise_cons] at h
    have hmem : ∀ b ∈ t.filterMap (fun r => if p r.2 then some r.1 else none), b ∈ t.map Prod.fst := by
      intro b hb
      simp only [List.mem_filterMap, Option.ite_none_right_eq_some, Option.some.injEq] at hb
      obtain ⟨r, hr, -, rfl⟩ := hb
      exact List.mem_map_of_mem hr
    by_cases hp : p a.2
    · simp only [List.filterMap_cons, hp, if_true, List.pairwise_cons]
      exact ⟨fun b hb => h.1 b (hmem b hb), ih h.2⟩
    · simp only [List.filterMap_cons, hp]
      exact ih h.2

theorem rowsWhere_ascending (p : α → Bool) (v : Vector α n) : (rowsWhere p v).Pairwise (· < ·) := by
  refine pairwise_filterMap_fst p _ ?_
  rw [List.map_fst_zip (by simp)]
  exact List.pairwise_lt_finRange n

theorem rowsWhere_nodup (p : α → Bool) (v : Vector α n) : (rowsWhere p v).Nodup :=
  (rowsWhere_ascending p v).imp fun h => Fin.ne_of_lt h

end rows


section modEntry
variable (i : EntryIdx) (f : Entry → Entry)

@[simp] theorem modEntry_groups : (s.modEntry i f).groups = s.groups := rfl
@[simp] theorem modEntry_lanes : (s.modEntry i f).lanes = s.lanes := rfl
@[simp] theorem modEntry_nodes : (s.modEntry i f).nodes = s.nodes := rfl
@[simp] theorem modEntry_ports : (s.modEntry i f).ports = s.ports := rfl
@[simp] theorem modEntry_pointer : (s.modEntry i f).pointer = s.pointer := rfl
@[simp] theorem modEntry_restart : (s.modEntry i f).restart = s.restart := rfl
@[simp] theorem modEntry_staging : (s.modEntry i f).staging = s.staging := rfl
@[simp] theorem modEntry_owner : (s.modEntry i f).owner = s.owner := rfl
@[simp] theorem modEntry_notices : (s.modEntry i f).notices = s.notices := rfl
@[simp] theorem modEntry_manager : (s.modEntry i f).manager = s.manager := rfl
@[simp] theorem modEntry_sweep : (s.modEntry i f).sweep = s.sweep := rfl
@[simp] theorem modEntry_pending : (s.modEntry i f).pending = s.pending := rfl
@[simp] theorem modEntry_group (h : GroupId) : (s.modEntry i f).group h = s.group h := rfl
@[simp] theorem modEntry_lane (j : LaneId) : (s.modEntry i f).lane j = s.lane j := rfl
@[simp] theorem modEntry_node (q : Port) (m : Node) : (s.modEntry i f).node q m = s.node q m := rfl
@[simp] theorem modEntry_port (q : Port) : (s.modEntry i f).port q = s.port q := rfl
@[simp] theorem modEntry_notice (m : NoticeKind) : (s.modEntry i f).notice m = s.notice m := rfl

end modEntry


section modLane
variable (k : LaneId) (f : Lane → Lane)

@[simp] theorem modLane_entries : (s.modLane k f).entries = s.entries := rfl
@[simp] theorem modLane_groups : (s.modLane k f).groups = s.groups := rfl
@[simp] theorem modLane_nodes : (s.modLane k f).nodes = s.nodes := rfl
@[simp] theorem modLane_ports : (s.modLane k f).ports = s.ports := rfl
@[simp] theorem modLane_pointer : (s.modLane k f).pointer = s.pointer := rfl
@[simp] theorem modLane_restart : (s.modLane k f).restart = s.restart := rfl
@[simp] theorem modLane_staging : (s.modLane k f).staging = s.staging := rfl
@[simp] theorem modLane_owner : (s.modLane k f).owner = s.owner := rfl
@[simp] theorem modLane_notices : (s.modLane k f).notices = s.notices := rfl
@[simp] theorem modLane_manager : (s.modLane k f).manager = s.manager := rfl
@[simp] theorem modLane_sweep : (s.modLane k f).sweep = s.sweep := rfl
@[simp] theorem modLane_pending : (s.modLane k f).pending = s.pending := rfl
@[simp] theorem modLane_entry (j : EntryIdx) : (s.modLane k f).entry j = s.entry j := rfl
@[simp] theorem modLane_group (h : GroupId) : (s.modLane k f).group h = s.group h := rfl
@[simp] theorem modLane_node (q : Port) (m : Node) : (s.modLane k f).node q m = s.node q m := rfl
@[simp] theorem modLane_port (q : Port) : (s.modLane k f).port q = s.port q := rfl
@[simp] theorem modLane_notice (m : NoticeKind) : (s.modLane k f).notice m = s.notice m := rfl

end modLane


section mapLanes
variable (f : LaneId → Lane → Lane)

@[simp] theorem mapLanes_entries : (s.mapLanes f).entries = s.entries := rfl
@[simp] theorem mapLanes_groups : (s.mapLanes f).groups = s.groups := rfl
@[simp] theorem mapLanes_nodes : (s.mapLanes f).nodes = s.nodes := rfl
@[simp] theorem mapLanes_ports : (s.mapLanes f).ports = s.ports := rfl
@[simp] theorem mapLanes_pointer : (s.mapLanes f).pointer = s.pointer := rfl
@[simp] theorem mapLanes_restart : (s.mapLanes f).restart = s.restart := rfl
@[simp] theorem mapLanes_staging : (s.mapLanes f).staging = s.staging := rfl
@[simp] theorem mapLanes_owner : (s.mapLanes f).owner = s.owner := rfl
@[simp] theorem mapLanes_notices : (s.mapLanes f).notices = s.notices := rfl
@[simp] theorem mapLanes_manager : (s.mapLanes f).manager = s.manager := rfl
@[simp] theorem mapLanes_sweep : (s.mapLanes f).sweep = s.sweep := rfl
@[simp] theorem mapLanes_pending : (s.mapLanes f).pending = s.pending := rfl
@[simp] theorem mapLanes_entry (j : EntryIdx) : (s.mapLanes f).entry j = s.entry j := rfl
@[simp] theorem mapLanes_group (h : GroupId) : (s.mapLanes f).group h = s.group h := rfl
@[simp] theorem mapLanes_node (q : Port) (m : Node) : (s.mapLanes f).node q m = s.node q m := rfl
@[simp] theorem mapLanes_port (q : Port) : (s.mapLanes f).port q = s.port q := rfl
@[simp] theorem mapLanes_notice (m : NoticeKind) : (s.mapLanes f).notice m = s.notice m := rfl

end mapLanes


section modNode
variable (p : Port) (n : Node) (f : NodeRecord → NodeRecord)

@[simp] theorem modNode_entries : (s.modNode p n f).entries = s.entries := rfl
@[simp] theorem modNode_groups : (s.modNode p n f).groups = s.groups := rfl
@[simp] theorem modNode_lanes : (s.modNode p n f).lanes = s.lanes := rfl
@[simp] theorem modNode_ports : (s.modNode p n f).ports = s.ports := rfl
@[simp] theorem modNode_pointer : (s.modNode p n f).pointer = s.pointer := rfl
@[simp] theorem modNode_restart : (s.modNode p n f).restart = s.restart := rfl
@[simp] theorem modNode_staging : (s.modNode p n f).staging = s.staging := rfl
@[simp] theorem modNode_owner : (s.modNode p n f).owner = s.owner := rfl
@[simp] theorem modNode_notices : (s.modNode p n f).notices = s.notices := rfl
@[simp] theorem modNode_manager : (s.modNode p n f).manager = s.manager := rfl
@[simp] theorem modNode_sweep : (s.modNode p n f).sweep = s.sweep := rfl
@[simp] theorem modNode_pending : (s.modNode p n f).pending = s.pending := rfl
@[simp] theorem modNode_entry (j : EntryIdx) : (s.modNode p n f).entry j = s.entry j := rfl
@[simp] theorem modNode_group (h : GroupId) : (s.modNode p n f).group h = s.group h := rfl
@[simp] theorem modNode_lane (j : LaneId) : (s.modNode p n f).lane j = s.lane j := rfl
@[simp] theorem modNode_port (q : Port) : (s.modNode p n f).port q = s.port q := rfl
@[simp] theorem modNode_notice (m : NoticeKind) : (s.modNode p n f).notice m = s.notice m := rfl

end modNode


section modPort
variable (p : Port) (f : PortRecord → PortRecord)

@[simp] theorem modPort_entries : (s.modPort p f).entries = s.entries := rfl
@[simp] theorem modPort_groups : (s.modPort p f).groups = s.groups := rfl
@[simp] theorem modPort_lanes : (s.modPort p f).lanes = s.lanes := rfl
@[simp] theorem modPort_nodes : (s.modPort p f).nodes = s.nodes := rfl
@[simp] theorem modPort_pointer : (s.modPort p f).pointer = s.pointer := rfl
@[simp] theorem modPort_restart : (s.modPort p f).restart = s.restart := rfl
@[simp] theorem modPort_staging : (s.modPort p f).staging = s.staging := rfl
@[simp] theorem modPort_owner : (s.modPort p f).owner = s.owner := rfl
@[simp] theorem modPort_notices : (s.modPort p f).notices = s.notices := rfl
@[simp] theorem modPort_manager : (s.modPort p f).manager = s.manager := rfl
@[simp] theorem modPort_sweep : (s.modPort p f).sweep = s.sweep := rfl
@[simp] theorem modPort_pending : (s.modPort p f).pending = s.pending := rfl
@[simp] theorem modPort_entry (j : EntryIdx) : (s.modPort p f).entry j = s.entry j := rfl
@[simp] theorem modPort_group (h : GroupId) : (s.modPort p f).group h = s.group h := rfl
@[simp] theorem modPort_lane (j : LaneId) : (s.modPort p f).lane j = s.lane j := rfl
@[simp] theorem modPort_node (q : Port) (m : Node) : (s.modPort p f).node q m = s.node q m := rfl
@[simp] theorem modPort_notice (m : NoticeKind) : (s.modPort p f).notice m = s.notice m := rfl

end modPort


section setGroup
variable (g : GroupId) (r : Group)

@[simp] theorem setGroup_entries : (s.setGroup g r).entries = s.entries := rfl
@[simp] theorem setGroup_lanes : (s.setGroup g r).lanes = s.lanes := rfl
@[simp] theorem setGroup_nodes : (s.setGroup g r).nodes = s.nodes := rfl
@[simp] theorem setGroup_ports : (s.setGroup g r).ports = s.ports := rfl
@[simp] theorem setGroup_pointer : (s.setGroup g r).pointer = s.pointer := rfl
@[simp] theorem setGroup_restart : (s.setGroup g r).restart = s.restart := rfl
@[simp] theorem setGroup_staging : (s.setGroup g r).staging = s.staging := rfl
@[simp] theorem setGroup_owner : (s.setGroup g r).owner = s.owner := rfl
@[simp] theorem setGroup_notices : (s.setGroup g r).notices = s.notices := rfl
@[simp] theorem setGroup_manager : (s.setGroup g r).manager = s.manager := rfl
@[simp] theorem setGroup_sweep : (s.setGroup g r).sweep = s.sweep := rfl
@[simp] theorem setGroup_pending : (s.setGroup g r).pending = s.pending := rfl
@[simp] theorem setGroup_entry (j : EntryIdx) : (s.setGroup g r).entry j = s.entry j := rfl
@[simp] theorem setGroup_lane (j : LaneId) : (s.setGroup g r).lane j = s.lane j := rfl
@[simp] theorem setGroup_node (q : Port) (m : Node) : (s.setGroup g r).node q m = s.node q m := rfl
@[simp] theorem setGroup_port (q : Port) : (s.setGroup g r).port q = s.port q := rfl
@[simp] theorem setGroup_notice (m : NoticeKind) : (s.setGroup g r).notice m = s.notice m := rfl

end setGroup


section setNotice
variable (k : NoticeKind) (r : NoticeRecord)

@[simp] theorem setNotice_entries : (s.setNotice k r).entries = s.entries := rfl
@[simp] theorem setNotice_groups : (s.setNotice k r).groups = s.groups := rfl
@[simp] theorem setNotice_lanes : (s.setNotice k r).lanes = s.lanes := rfl
@[simp] theorem setNotice_nodes : (s.setNotice k r).nodes = s.nodes := rfl
@[simp] theorem setNotice_ports : (s.setNotice k r).ports = s.ports := rfl
@[simp] theorem setNotice_pointer : (s.setNotice k r).pointer = s.pointer := rfl
@[simp] theorem setNotice_restart : (s.setNotice k r).restart = s.restart := rfl
@[simp] theorem setNotice_staging : (s.setNotice k r).staging = s.staging := rfl
@[simp] theorem setNotice_owner : (s.setNotice k r).owner = s.owner := rfl
@[simp] theorem setNotice_manager : (s.setNotice k r).manager = s.manager := rfl
@[simp] theorem setNotice_sweep : (s.setNotice k r).sweep = s.sweep := rfl
@[simp] theorem setNotice_pending : (s.setNotice k r).pending = s.pending := rfl
@[simp] theorem setNotice_entry (j : EntryIdx) : (s.setNotice k r).entry j = s.entry j := rfl
@[simp] theorem setNotice_group (h : GroupId) : (s.setNotice k r).group h = s.group h := rfl
@[simp] theorem setNotice_lane (j : LaneId) : (s.setNotice k r).lane j = s.lane j := rfl
@[simp] theorem setNotice_node (q : Port) (m : Node) : (s.setNotice k r).node q m = s.node q m := rfl
@[simp] theorem setNotice_port (q : Port) : (s.setNotice k r).port q = s.port q := rfl

end setNotice


section fields


theorem entryIndex_inj {p q : Port} {n m : Node} {l o : Line} :
    entryIndex p n l = entryIndex q m o ↔ p = q ∧ n = m ∧ l = o := by
  simp only [entryIndex, Fin.ext_iff]; omega

theorem nodeIndex_inj {p q : Port} {n m : Node} : nodeIndex p n = nodeIndex q m ↔ p = q ∧ n = m := by
  simp only [nodeIndex, Fin.ext_iff]; omega

/-- The entry index names its source key, and the source key its entry index (R1). -/
theorem entryIndex_source (i : EntryIdx) : entryIndex (entryPort i) (entryNode i) (entryLine i) = i := by
  simp only [entryIndex, entryPort, entryNode, entryLine, Fin.ext_iff]; omega

theorem entry_modEntry (i j : EntryIdx) (f : Entry → Entry) :
    (s.modEntry i f).entry j = if j = i then f (s.entry i) else s.entry j := by
  by_cases h : j = i
  · subst h; simp [State.modEntry, State.entry]
  · simp [State.modEntry, State.entry, h, Fin.val_inj, Ne.symm h]

@[simp] theorem entry_modEntry_same (i : EntryIdx) (f : Entry → Entry) : (s.modEntry i f).entry i = f (s.entry i) := by
  simp [entry_modEntry]

@[simp] theorem entry_modEntry_ne {i j : EntryIdx} (h : j ≠ i) (f : Entry → Entry) : (s.modEntry i f).entry j = s.entry j := by
  simp [entry_modEntry, h]

theorem lane_modLane (k j : LaneId) (f : Lane → Lane) :
    (s.modLane k f).lane j = if j = k then f (s.lane k) else s.lane j := by
  by_cases h : j = k
  · subst h; simp [State.modLane, State.lane]
  · simp [State.modLane, State.lane, h, Fin.val_inj, Ne.symm h]

@[simp] theorem lane_modLane_same (k : LaneId) (f : Lane → Lane) : (s.modLane k f).lane k = f (s.lane k) := by
  simp [lane_modLane]

@[simp] theorem lane_modLane_ne {k j : LaneId} (h : j ≠ k) (f : Lane → Lane) : (s.modLane k f).lane j = s.lane j := by
  simp [lane_modLane, h]

@[simp] theorem lane_mapLanes (f : LaneId → Lane → Lane) (k : LaneId) : (s.mapLanes f).lane k = f k (s.lane k) := by
  fin_cases k <;> rfl

theorem node_modNode (p q : Port) (n m : Node) (f : NodeRecord → NodeRecord) :
    (s.modNode p n f).node q m = if q = p ∧ m = n then f (s.node p n) else s.node q m := by
  by_cases h : q = p ∧ m = n
  · obtain ⟨rfl, rfl⟩ := h; simp [State.modNode, State.node]
  · have h' : ¬ nodeIndex p n = nodeIndex q m := by rw [nodeIndex_inj]; tauto
    simp [State.modNode, State.node, h, Fin.val_inj, h']

@[simp] theorem node_modNode_same (p : Port) (n : Node) (f : NodeRecord → NodeRecord) :
    (s.modNode p n f).node p n = f (s.node p n) := by
  simp [node_modNode]

theorem port_modPort (p q : Port) (f : PortRecord → PortRecord) :
    (s.modPort p f).port q = if q = p then f (s.port p) else s.port q := by
  by_cases h : q = p
  · subst h; simp [State.modPort, State.port]
  · simp [State.modPort, State.port, h, Fin.val_inj, Ne.symm h]

@[simp] theorem port_modPort_same (p : Port) (f : PortRecord → PortRecord) : (s.modPort p f).port p = f (s.port p) := by
  simp [port_modPort]

@[simp] theorem port_modPort_ne {p q : Port} (h : q ≠ p) (f : PortRecord → PortRecord) : (s.modPort p f).port q = s.port q := by
  simp [port_modPort, h]

theorem group_setGroup (g h : GroupId) (r : Group) : (s.setGroup g r).group h = if h = g then r else s.group h := by
  by_cases e : h = g
  · subst e; simp [State.setGroup, State.group]
  · simp [State.setGroup, State.group, e, Fin.val_inj, Ne.symm e]

theorem NoticeKind.index_inj {k j : NoticeKind} : k.index = j.index ↔ k = j := by
  cases k <;> cases j <;> simp [NoticeKind.index]

theorem notice_setNotice (k j : NoticeKind) (r : NoticeRecord) :
    (s.setNotice k r).notice j = if j = k then r else s.notice j := by
  by_cases e : j = k
  · subst e; simp [State.setNotice, State.notice]
  · have e' : ¬ k.index = j.index := by rw [NoticeKind.index_inj]; exact Ne.symm e
    simp [State.setNotice, State.notice, e, Fin.val_inj, e']

@[simp] theorem notice_setNotice_same (k : NoticeKind) (r : NoticeRecord) : (s.setNotice k r).notice k = r := by
  simp [notice_setNotice]

@[simp] theorem notice_setNotice_ne {k j : NoticeKind} (h : j ≠ k) (r : NoticeRecord) :
    (s.setNotice k r).notice j = s.notice j := by
  simp [notice_setNotice, h]

@[simp] theorem entry_with_pointer (x : LaneId) (j : EntryIdx) : State.entry { s with pointer := x } j = s.entry j := rfl
@[simp] theorem group_with_pointer (x : LaneId) (h : GroupId) : State.group { s with pointer := x } h = s.group h := rfl
@[simp] theorem lane_with_pointer (x : LaneId) (j : LaneId) : State.lane { s with pointer := x } j = s.lane j := rfl
@[simp] theorem node_with_pointer (x : LaneId) (q : Port) (m : Node) : State.node { s with pointer := x } q m = s.node q m := rfl
@[simp] theorem port_with_pointer (x : LaneId) (q : Port) : State.port { s with pointer := x } q = s.port q := rfl
@[simp] theorem notice_with_pointer (x : LaneId) (m : NoticeKind) : State.notice { s with pointer := x } m = s.notice m := rfl
@[simp] theorem entry_with_restart (x : RestartPhase) (j : EntryIdx) : State.entry { s with restart := x } j = s.entry j := rfl
@[simp] theorem group_with_restart (x : RestartPhase) (h : GroupId) : State.group { s with restart := x } h = s.group h := rfl
@[simp] theorem lane_with_restart (x : RestartPhase) (j : LaneId) : State.lane { s with restart := x } j = s.lane j := rfl
@[simp] theorem node_with_restart (x : RestartPhase) (q : Port) (m : Node) : State.node { s with restart := x } q m = s.node q m := rfl
@[simp] theorem port_with_restart (x : RestartPhase) (q : Port) : State.port { s with restart := x } q = s.port q := rfl
@[simp] theorem notice_with_restart (x : RestartPhase) (m : NoticeKind) : State.notice { s with restart := x } m = s.notice m := rfl
@[simp] theorem entry_with_staging (x : List StagedRecord) (j : EntryIdx) : State.entry { s with staging := x } j = s.entry j := rfl
@[simp] theorem group_with_staging (x : List StagedRecord) (h : GroupId) : State.group { s with staging := x } h = s.group h := rfl
@[simp] theorem lane_with_staging (x : List StagedRecord) (j : LaneId) : State.lane { s with staging := x } j = s.lane j := rfl
@[simp] theorem node_with_staging (x : List StagedRecord) (q : Port) (m : Node) : State.node { s with staging := x } q m = s.node q m := rfl
@[simp] theorem port_with_staging (x : List StagedRecord) (q : Port) : State.port { s with staging := x } q = s.port q := rfl
@[simp] theorem notice_with_staging (x : List StagedRecord) (m : NoticeKind) : State.notice { s with staging := x } m = s.notice m := rfl
@[simp] theorem entry_with_owner (x : Option LaneId) (j : EntryIdx) : State.entry { s with owner := x } j = s.entry j := rfl
@[simp] theorem group_with_owner (x : Option LaneId) (h : GroupId) : State.group { s with owner := x } h = s.group h := rfl
@[simp] theorem lane_with_owner (x : Option LaneId) (j : LaneId) : State.lane { s with owner := x } j = s.lane j := rfl
@[simp] theorem node_with_owner (x : Option LaneId) (q : Port) (m : Node) : State.node { s with owner := x } q m = s.node q m := rfl
@[simp] theorem port_with_owner (x : Option LaneId) (q : Port) : State.port { s with owner := x } q = s.port q := rfl
@[simp] theorem notice_with_owner (x : Option LaneId) (m : NoticeKind) : State.notice { s with owner := x } m = s.notice m := rfl
@[simp] theorem entry_with_manager (x : LaneId) (j : EntryIdx) : State.entry { s with manager := x } j = s.entry j := rfl
@[simp] theorem group_with_manager (x : LaneId) (h : GroupId) : State.group { s with manager := x } h = s.group h := rfl
@[simp] theorem lane_with_manager (x : LaneId) (j : LaneId) : State.lane { s with manager := x } j = s.lane j := rfl
@[simp] theorem node_with_manager (x : LaneId) (q : Port) (m : Node) : State.node { s with manager := x } q m = s.node q m := rfl
@[simp] theorem port_with_manager (x : LaneId) (q : Port) : State.port { s with manager := x } q = s.port q := rfl
@[simp] theorem notice_with_manager (x : LaneId) (m : NoticeKind) : State.notice { s with manager := x } m = s.notice m := rfl
@[simp] theorem entry_with_sweep (x : Sweep) (j : EntryIdx) : State.entry { s with sweep := x } j = s.entry j := rfl
@[simp] theorem group_with_sweep (x : Sweep) (h : GroupId) : State.group { s with sweep := x } h = s.group h := rfl
@[simp] theorem lane_with_sweep (x : Sweep) (j : LaneId) : State.lane { s with sweep := x } j = s.lane j := rfl
@[simp] theorem node_with_sweep (x : Sweep) (q : Port) (m : Node) : State.node { s with sweep := x } q m = s.node q m := rfl
@[simp] theorem port_with_sweep (x : Sweep) (q : Port) : State.port { s with sweep := x } q = s.port q := rfl
@[simp] theorem notice_with_sweep (x : Sweep) (m : NoticeKind) : State.notice { s with sweep := x } m = s.notice m := rfl
@[simp] theorem entry_with_pending (x : List Instr) (j : EntryIdx) : State.entry { s with pending := x } j = s.entry j := rfl
@[simp] theorem group_with_pending (x : List Instr) (h : GroupId) : State.group { s with pending := x } h = s.group h := rfl
@[simp] theorem lane_with_pending (x : List Instr) (j : LaneId) : State.lane { s with pending := x } j = s.lane j := rfl
@[simp] theorem node_with_pending (x : List Instr) (q : Port) (m : Node) : State.node { s with pending := x } q m = s.node q m := rfl
@[simp] theorem port_with_pending (x : List Instr) (q : Port) : State.port { s with pending := x } q = s.port q := rfl
@[simp] theorem notice_with_pending (x : List Instr) (m : NoticeKind) : State.notice { s with pending := x } m = s.notice m := rfl
@[simp] theorem group_with_entries (x : Vector Entry 512) (h : GroupId) : State.group { s with entries := x } h = s.group h := rfl
@[simp] theorem lane_with_entries (x : Vector Entry 512) (j : LaneId) : State.lane { s with entries := x } j = s.lane j := rfl
@[simp] theorem node_with_entries (x : Vector Entry 512) (q : Port) (m : Node) : State.node { s with entries := x } q m = s.node q m := rfl
@[simp] theorem port_with_entries (x : Vector Entry 512) (q : Port) : State.port { s with entries := x } q = s.port q := rfl
@[simp] theorem notice_with_entries (x : Vector Entry 512) (m : NoticeKind) : State.notice { s with entries := x } m = s.notice m := rfl
@[simp] theorem entry_with_groups (x : Vector Group 16) (j : EntryIdx) : State.entry { s with groups := x } j = s.entry j := rfl
@[simp] theorem lane_with_groups (x : Vector Group 16) (j : LaneId) : State.lane { s with groups := x } j = s.lane j := rfl
@[simp] theorem node_with_groups (x : Vector Group 16) (q : Port) (m : Node) : State.node { s with groups := x } q m = s.node q m := rfl
@[simp] theorem port_with_groups (x : Vector Group 16) (q : Port) : State.port { s with groups := x } q = s.port q := rfl
@[simp] theorem notice_with_groups (x : Vector Group 16) (m : NoticeKind) : State.notice { s with groups := x } m = s.notice m := rfl
@[simp] theorem entry_with_lanes (x : Vector Lane 8) (j : EntryIdx) : State.entry { s with lanes := x } j = s.entry j := rfl
@[simp] theorem group_with_lanes (x : Vector Lane 8) (h : GroupId) : State.group { s with lanes := x } h = s.group h := rfl
@[simp] theorem node_with_lanes (x : Vector Lane 8) (q : Port) (m : Node) : State.node { s with lanes := x } q m = s.node q m := rfl
@[simp] theorem port_with_lanes (x : Vector Lane 8) (q : Port) : State.port { s with lanes := x } q = s.port q := rfl
@[simp] theorem notice_with_lanes (x : Vector Lane 8) (m : NoticeKind) : State.notice { s with lanes := x } m = s.notice m := rfl
@[simp] theorem entry_with_nodes (x : Vector NodeRecord 256) (j : EntryIdx) : State.entry { s with nodes := x } j = s.entry j := rfl
@[simp] theorem group_with_nodes (x : Vector NodeRecord 256) (h : GroupId) : State.group { s with nodes := x } h = s.group h := rfl
@[simp] theorem lane_with_nodes (x : Vector NodeRecord 256) (j : LaneId) : State.lane { s with nodes := x } j = s.lane j := rfl
@[simp] theorem port_with_nodes (x : Vector NodeRecord 256) (q : Port) : State.port { s with nodes := x } q = s.port q := rfl
@[simp] theorem notice_with_nodes (x : Vector NodeRecord 256) (m : NoticeKind) : State.notice { s with nodes := x } m = s.notice m := rfl
@[simp] theorem entry_with_ports (x : Vector PortRecord 4) (j : EntryIdx) : State.entry { s with ports := x } j = s.entry j := rfl
@[simp] theorem group_with_ports (x : Vector PortRecord 4) (h : GroupId) : State.group { s with ports := x } h = s.group h := rfl
@[simp] theorem lane_with_ports (x : Vector PortRecord 4) (j : LaneId) : State.lane { s with ports := x } j = s.lane j := rfl
@[simp] theorem node_with_ports (x : Vector PortRecord 4) (q : Port) (m : Node) : State.node { s with ports := x } q m = s.node q m := rfl
@[simp] theorem notice_with_ports (x : Vector PortRecord 4) (m : NoticeKind) : State.notice { s with ports := x } m = s.notice m := rfl
@[simp] theorem entry_with_notices (x : Vector NoticeRecord 10) (j : EntryIdx) : State.entry { s with notices := x } j = s.entry j := rfl
@[simp] theorem group_with_notices (x : Vector NoticeRecord 10) (h : GroupId) : State.group { s with notices := x } h = s.group h := rfl
@[simp] theorem lane_with_notices (x : Vector NoticeRecord 10) (j : LaneId) : State.lane { s with notices := x } j = s.lane j := rfl
@[simp] theorem node_with_notices (x : Vector NoticeRecord 10) (q : Port) (m : Node) : State.node { s with notices := x } q m = s.node q m := rfl
@[simp] theorem port_with_notices (x : Vector NoticeRecord 10) (q : Port) : State.port { s with notices := x } q = s.port q := rfl

end fields

end Sys2Proof.Machine
end

