-- ==== Sys2Proof/Laws/Delivery.lean ====
section
/-!
SUPPORT. Everything the delivery procedures can do. `Delivers s t`: from `s` to `t` the entries change in their delivery state and
quarantine flag only, the lanes in their queue, held list and waking only, and the notices may be raised; everything else stands.
-/

namespace Sys2Proof.Machine

/-- What delivery may change of an entry. -/
def EntryDelivers (e f : Entry) : Prop :=
  f = { e with state := f.state, quarantined := f.quarantined } ∧ (e.quarantined = true → f.quarantined = true)

/-- What delivery may change of a lane. -/
def LaneDelivers (l m : Lane) : Prop :=
  m = { l with
    state := m.state, deepTimer := m.deepTimer, wakeTimer := m.wakeTimer, wakePending := m.wakePending
    bridgeWake := m.bridgeWake, queue := m.queue, held := m.held, enqueueSeq := m.enqueueSeq } ∧
  (m.state = l.state ∨ (l.state = .doze ∨ l.state = .deep) ∧ m.state = .waking)

/-- What delivery may change of the state. -/
def Delivers (s t : State) : Prop :=
  t = { s with entries := t.entries, lanes := t.lanes, notices := t.notices } ∧
  (∀ i, EntryDelivers (s.entry i) (t.entry i)) ∧ (∀ k, LaneDelivers (s.lane k) (t.lane k)) ∧
  (∀ n, (s.notice n).isSet = true → (t.notice n).isSet = true)

variable {s t u : State}

theorem EntryDelivers.refl (e : Entry) : EntryDelivers e e := ⟨rfl, id⟩

theorem EntryDelivers.trans {e f g : Entry} (h : EntryDelivers e f) (h' : EntryDelivers f g) : EntryDelivers e g := by
  refine ⟨?_, fun q => h'.2 (h.2 q)⟩
  rw [h'.1, h.1]

theorem LaneDelivers.refl (l : Lane) : LaneDelivers l l := ⟨rfl, .inl rfl⟩

theorem LaneDelivers.trans {l m n : Lane} (h : LaneDelivers l m) (h' : LaneDelivers m n) : LaneDelivers l n := by
  refine ⟨?_, ?_⟩
  · rw [h'.1, h.1]
  · rcases h.2 with a | ⟨a, b⟩ <;> rcases h'.2 with c | ⟨c, d⟩
    · exact .inl (c.trans a)
    · exact .inr ⟨a ▸ c, d⟩
    · exact .inr ⟨a, c.trans b⟩
    · exact .inr ⟨a, d⟩

theorem Delivers.refl (s : State) : Delivers s s :=
  ⟨rfl, fun _ => .refl _, fun _ => .refl _, fun _ h => h⟩

theorem Delivers.trans (h : Delivers s t) (h' : Delivers t u) : Delivers s u := by
  refine ⟨?_, fun i => (h.2.1 i).trans (h'.2.1 i), fun k => (h.2.2.1 k).trans (h'.2.2.1 k),
    fun n q => h'.2.2.2 n (h.2.2.2 n q)⟩
  rw [h'.1, h.1]

/-- Delivery leaves a lane live or not live as it was. -/
theorem LaneDelivers.live {l m : Lane} (h : LaneDelivers l m) : m.state.live = l.state.live := by
  rcases h.2 with a | ⟨a | a, b⟩ <;> simp [*, LaneState.live]

theorem Delivers.live (h : Delivers s t) (k : LaneId) : t.live k = s.live k := (h.2.2.1 k).live

theorem Delivers.pendingCount (h : Delivers s t) (i : EntryIdx) : (t.entry i).pendingCount = (s.entry i).pendingCount := by
  rw [(h.2.1 i).1]

theorem Delivers.line (h : Delivers s t) (i : EntryIdx) : (t.entry i).line = (s.entry i).line := by
  rw [(h.2.1 i).1]

theorem Delivers.raiseCount (h : Delivers s t) (i : EntryIdx) : (t.entry i).raiseCount = (s.entry i).raiseCount := by
  rw [(h.2.1 i).1]

theorem Delivers.workTrigger (h : Delivers s t) (i : EntryIdx) : (t.entry i).workTrigger = (s.entry i).workTrigger := by
  rw [(h.2.1 i).1]

theorem Delivers.workMask (h : Delivers s t) (i : EntryIdx) : (t.entry i).workMask = (s.entry i).workMask := by
  rw [(h.2.1 i).1]

theorem Delivers.image (h : Delivers s t) (i : EntryIdx) : (t.entry i).image = (s.entry i).image := by
  rw [(h.2.1 i).1]

theorem Delivers.settings (h : Delivers s t) (k : LaneId) : (t.lane k).settings = (s.lane k).settings := by
  rw [(h.2.2.1 k).1]

theorem Delivers.creditLimit (h : Delivers s t) (k : LaneId) : (t.lane k).creditLimit = (s.lane k).creditLimit := by
  rw [(h.2.2.1 k).1]

theorem Delivers.availableCredit (h : Delivers s t) (k : LaneId) :
    (t.lane k).availableCredit = (s.lane k).availableCredit := by
  rw [(h.2.2.1 k).1]

theorem Delivers.control (h : Delivers s t) (k : LaneId) : (t.lane k).control = (s.lane k).control := by
  rw [(h.2.2.1 k).1]

theorem Delivers.slot (h : Delivers s t) (k : LaneId) : (t.lane k).slot = (s.lane k).slot := by
  rw [(h.2.2.1 k).1]

theorem Delivers.pending (h : Delivers s t) : t.pending = s.pending := by
  rw [h.1]

/-- Everything a change of one entry's delivery state and quarantine flag does. -/
theorem Delivers.ofEntry (s : State) (i : EntryIdx) (f : Entry → Entry) (h : EntryDelivers (s.entry i) (f (s.entry i))) :
    Delivers s (s.modEntry i f) := by
  refine ⟨rfl, fun j => ?_, fun _ => .refl _, fun _ h => h⟩
  rw [entry_modEntry]
  split
  · next e => subst e; exact h
  · exact .refl _

/-- Everything a change of one lane within delivery does. -/
theorem Delivers.ofLane (s : State) (k : LaneId) (f : Lane → Lane) (h : LaneDelivers (s.lane k) (f (s.lane k))) :
    Delivers s (s.modLane k f) := by
  refine ⟨rfl, fun _ => .refl _, fun j => ?_, fun _ h => h⟩
  rw [lane_modLane]
  split
  · next e => subst e; exact h
  · exact .refl _

/-- Everything work to send does to a lane (R134). -/
theorem LaneDelivers.workToSend (l : Lane) : LaneDelivers l l.workToSend := by
  unfold Lane.workToSend Lane.wake
  split
  · exact ⟨rfl, .inl rfl⟩
  · next h => simp only [h]; exact ⟨rfl, .inr ⟨.inl h, rfl⟩⟩
  · next h => simp only [h]; exact ⟨rfl, .inr ⟨.inr h, rfl⟩⟩
  all_goals exact .refl l

theorem Delivers.workToSend (s : State) (k : LaneId) : Delivers s (s.workToSend k) :=
  .ofLane s k _ (.workToSend _)

/-- Everything the raise of a notice can do (R182, R183). -/
theorem Delivers.raiseNotice (k : NoticeKind) (d : Nat) (s : State) : Delivers s (raiseNotice k d s) := by
  have h : Delivers s (s.setNotice k ((s.notice k).raised d)) := by
    refine ⟨rfl, fun _ => .refl _, fun _ => .refl _, fun n q => ?_⟩
    rw [notice_setNotice]
    split
    · next e => subst e; simp [NoticeRecord.raised, q]
    · exact q
  unfold Machine.raiseNotice
  split
  · exact h
  · exact h.trans (.workToSend _ _)

theorem Delivers.setDelivery (i : EntryIdx) (d : DeliveryState) (s : State) : Delivers s (setDelivery i d s) :=
  .ofEntry s i _ ⟨rfl, id⟩

theorem Delivers.quarantineLoose (i : EntryIdx) (s : State) : Delivers s (quarantineLoose i s) :=
  Delivers.trans (t := s.modEntry i fun e => { e with quarantined := true, state := .latched })
    (.ofEntry s i _ ⟨rfl, fun _ => rfl⟩) (.raiseNotice _ _ _)

/-- Everything an enqueue can do (R65, R66, R74). -/
theorem Delivers.enqueue (k : LaneId) (i : EntryIdx) (s : State) : Delivers s (enqueue k i s) :=
  Delivers.trans
    (Delivers.trans (.ofLane s k _ ⟨rfl, .inl rfl⟩) (.setDelivery i (.queued k) _))
    (.workToSend _ k)

/-- Everything a promotion can do (R12). -/
theorem Delivers.promoteFrom (k : LaneId) (w : List EntryIdx) (s : State) : Delivers s (promoteFrom k w s) := by
  induction w generalizing s with
  | nil => exact .ofLane s k _ ⟨rfl, .inl rfl⟩
  | cons i rest ih =>
    have h : Delivers s (s.modLane k fun l => { l with held := rest }) := .ofLane s k _ ⟨rfl, .inl rfl⟩
    unfold Machine.promoteFrom
    split
    · exact h.trans (.enqueue k i _)
    · exact (h.trans (.quarantineLoose i _)).trans (ih _)

/-- Everything a promotion can do (R69). -/
theorem Delivers.promote (k : LaneId) (s : State) : Delivers s (promote k s) := by
  unfold Machine.promote
  split
  · exact .promoteFrom k _ s
  · exact .refl s

/-- Everything a withdrawal can do (R14). -/
theorem Delivers.withdraw (i : EntryIdx) (s : State) : Delivers s (withdraw i s) := by
  unfold Machine.withdraw
  split
  · next k h =>
    exact (Delivers.trans (.ofLane s k (fun l => { l with queue := l.queue.filter (fun x => decide (x.entry ≠ i)) })
      ⟨rfl, .inl rfl⟩) (.setDelivery i .latched _)).trans (.promote k _)
  · next k h =>
    exact Delivers.trans (.ofLane s k (fun l => { l with held := l.held.filter (fun j => decide (j ≠ i)) })
      ⟨rfl, .inl rfl⟩) (.setDelivery i .latched _)
  all_goals exact .refl s

/-- Everything a placement can do (R57). -/
theorem Delivers.place (k : LaneId) (i : EntryIdx) (s : State) : Delivers s (place k i s) := by
  unfold Machine.place
  split
  · exact .enqueue k i s
  · exact Delivers.trans (.ofLane s k (fun l => { l with held := l.held ++ [i] }) ⟨rfl, .inl rfl⟩) (.setDelivery i _ _)

/-- Everything an offer can do (R11). -/
theorem Delivers.offer (i : EntryIdx) (s : State) : Delivers s (offer i s) := by
  unfold Machine.offer
  dsimp only
  split
  · exact .setDelivery i _ s
  · split
    · exact .setDelivery i _ s
    · split
      · exact .quarantineLoose i s
      · split
        · exact .place _ i s
        · exact (Delivers.setDelivery i .stranded s).trans (.raiseNotice _ _ _)

/-- Everything several offers can do (R13). -/
theorem Delivers.offerAll (is : List EntryIdx) (s : State) : Delivers s (offerAll is s) := by
  induction is generalizing s with
  | nil => exact .refl s
  | cons i rest ih => exact (Delivers.offer i s).trans (ih _)

/-- Everything the quarantine of a swept entry can do (R20). -/
theorem Delivers.quarantineFound (i : EntryIdx) (s : State) : Delivers s (quarantineFound i s) := by
  have h : Delivers s (s.modEntry i fun e => { e with quarantined := true }) := .ofEntry s i _ ⟨rfl, fun _ => rfl⟩
  unfold Machine.quarantineFound
  refine Delivers.trans ?_ (.raiseNotice _ _ _)
  split
  · exact h.trans ((Delivers.withdraw i _).trans (.setDelivery i _ _))
  · exact h.trans ((Delivers.withdraw i _).trans (.setDelivery i _ _))
  · exact h.trans (.setDelivery i _ _)
  all_goals exact h

/-- Everything the release outcome can do, after the pending count it sets (R89). -/
theorem Delivers.settleRelease (i : EntryIdx) (s : State) :
    Delivers (setPending i (if (s.entry i).line then 1 else 0) s) (settleRelease i s) := by
  unfold Machine.settleRelease
  split
  · exact .offer i _
  · exact .setDelivery i _ _

end Sys2Proof.Machine
end

