-- ==== Sys2Proof/Laws/Intake.lean ====
section
/-!
SUPPORT. Everything the line effects and the release of a binding can do. `Takes i s t`: from `s` to `t` entry `i` may change its line and pending count besides its
delivery state and quarantine flag, and everything else changes as delivery may change it.
-/

namespace Sys2Proof.Machine

/-- What a line effect may change of its entry. -/
def EntryTakes (e f : Entry) : Prop :=
  f = { e with state := f.state, quarantined := f.quarantined, line := f.line, pendingCount := f.pendingCount } ∧
  (e.quarantined = true → f.quarantined = true)

/-- What a line effect at entry `i` may change of the state. -/
def Takes (i : EntryIdx) (s t : State) : Prop :=
  t = { s with entries := t.entries, lanes := t.lanes, notices := t.notices } ∧
  EntryTakes (s.entry i) (t.entry i) ∧ (∀ j, j ≠ i → EntryDelivers (s.entry j) (t.entry j)) ∧
  (∀ k, LaneDelivers (s.lane k) (t.lane k)) ∧ (∀ n, (s.notice n).isSet = true → (t.notice n).isSet = true)

variable {i : EntryIdx} {s t u : State}

theorem EntryDelivers.takes {e f : Entry} (h : EntryDelivers e f) : EntryTakes e f := by
  refine ⟨?_, h.2⟩
  rw [h.1]

theorem EntryTakes.trans {e f g : Entry} (h : EntryTakes e f) (h' : EntryTakes f g) : EntryTakes e g := by
  refine ⟨?_, fun q => h'.2 (h.2 q)⟩
  rw [h'.1, h.1]

theorem Delivers.takes (h : Delivers s t) : Takes i s t :=
  ⟨h.1, (h.2.1 i).takes, fun j _ => h.2.1 j, h.2.2.1, h.2.2.2⟩

theorem Takes.refl (s : State) : Takes i s s := (Delivers.refl s).takes

theorem Takes.trans (h : Takes i s t) (h' : Takes i t u) : Takes i s u := by
  refine ⟨?_, h.2.1.trans h'.2.1, fun j q => (h.2.2.1 j q).trans (h'.2.2.1 j q),
    fun k => (h.2.2.2.1 k).trans (h'.2.2.2.1 k), fun n q => h'.2.2.2.2 n (h.2.2.2.2 n q)⟩
  rw [h'.1, h.1]

theorem Takes.thenDelivers (h : Takes i s t) (h' : Delivers t u) : Takes i s u := h.trans h'.takes

/-- Everything a change of entry `i`'s line, pending count, delivery state or quarantine flag does. -/
theorem Takes.ofEntry (s : State) (i : EntryIdx) (f : Entry → Entry) (h : EntryTakes (s.entry i) (f (s.entry i))) :
    Takes i s (s.modEntry i f) := by
  refine ⟨rfl, ?_, fun j q => ?_, fun _ => .refl _, fun _ h => h⟩
  · rw [entry_modEntry, if_pos rfl]; exact h
  · rw [entry_modEntry, if_neg q]; exact .refl _

theorem Takes.setLine (i : EntryIdx) (b : Bool) (s : State) : Takes i s (setLine i b s) := .ofEntry s i _ ⟨rfl, id⟩

theorem Takes.setPending (i : EntryIdx) (n : Nat) (s : State) : Takes i s (setPending i n s) := .ofEntry s i _ ⟨rfl, id⟩

/-- Everything the counting of further raises can do (R16, R17). -/
theorem Takes.coalesce (i : EntryIdx) (n : Nat) (s : State) : Takes i s (coalesce i n s) := by
  unfold Machine.coalesce
  dsimp only
  split
  · exact (Takes.setPending i _ s).thenDelivers (.raiseNotice _ _ _)
  · exact .setPending i _ s

/-- Everything an edge raise can do (R16). -/
theorem Takes.edgeRaise (i : EntryIdx) (n : Nat) (s : State) : Takes i s (edgeRaise i n s) := by
  have h := Takes.setLine i true s
  unfold Machine.edgeRaise
  dsimp only
  split
  · exact (h.trans (.setPending i n _)).thenDelivers (.offer i _)
  all_goals first | exact h.trans (.coalesce i n _) | exact h

/-- Everything a level assert can do (R18). -/
theorem Takes.levelAssert (i : EntryIdx) (s : State) : Takes i s (levelAssert i s) := by
  have h := Takes.setLine i true s
  unfold Machine.levelAssert
  split
  · exact .refl s
  · split
    · exact (h.trans (.setPending i 1 _)).thenDelivers (.offer i _)
    all_goals exact h

/-- Everything a deassert can do (R19). -/
theorem Takes.deassert (i : EntryIdx) (s : State) : Takes i s (deassert i s) := by
  have h := Takes.setLine i false s
  have hw : Takes i s (Machine.setDelivery i .idle (Machine.setPending i 0 (Machine.withdraw i (Machine.setLine i false s)))) :=
    ((h.thenDelivers (.withdraw i _)).trans (.setPending i 0 _)).thenDelivers (.setDelivery i .idle _)
  unfold Machine.deassert
  dsimp only
  split
  · exact .refl s
  · split
    all_goals first | exact hw | exact h

/-- Everything the raises of one frame can do at their entry (R35, R37, R38). -/
theorem Takes.raiseEffect (i : EntryIdx) (n : Nat) (s : State) : Takes i s (raiseEffect i n s) := by
  unfold Machine.raiseEffect
  split
  · exact .edgeRaise i n s
  · exact .levelAssert i s

/-- Everything the removal of a binding can do (R89). -/
theorem Takes.unbind (i : EntryIdx) (s : State) : Takes i s (unbind i s) := .ofEntry s i _ ⟨rfl, id⟩

/-- Everything the release outcome can do (R89). -/
theorem Takes.settleRelease (i : EntryIdx) (s : State) : Takes i s (settleRelease i s) :=
  (Takes.setPending i _ s).thenDelivers (.settleRelease i s)

end Sys2Proof.Machine
end

