-- ==== Sys2Proof/Laws/Lanes.lean ====
section
/-!
SUPPORT. Everything the release of several bindings and a lane loss can do (R90, R122 to R126).
-/

namespace Sys2Proof.Machine

/-- What the release of the entries `is` may change: their delivery state, quarantine flag, line and pending count; elsewhere what delivery may change. -/
def Releases (is : List EntryIdx) (s t : State) : Prop :=
  t = { s with entries := t.entries, lanes := t.lanes, notices := t.notices } ∧
  (∀ i, EntryTakes (s.entry i) (t.entry i)) ∧ (∀ i, i ∉ is → EntryDelivers (s.entry i) (t.entry i)) ∧
  (∀ k, LaneDelivers (s.lane k) (t.lane k)) ∧ (∀ n, (s.notice n).isSet = true → (t.notice n).isSet = true)

variable {is : List EntryIdx} {s t u : State}

theorem Delivers.releases (h : Delivers s t) : Releases is s t :=
  ⟨h.1, fun i => (h.2.1 i).takes, fun i _ => h.2.1 i, h.2.2.1, h.2.2.2⟩

theorem Takes.releases {i : EntryIdx} (h : Takes i s t) (hi : i ∈ is) : Releases is s t := by
  refine ⟨h.1, fun j => ?_, fun j q => h.2.2.1 j fun e => q (e ▸ hi), h.2.2.2.1, h.2.2.2.2⟩
  by_cases e : j = i
  · exact e ▸ h.2.1
  · exact (h.2.2.1 j e).takes

theorem Releases.trans (h : Releases is s t) (h' : Releases is t u) : Releases is s u := by
  refine ⟨?_, fun i => (h.2.1 i).trans (h'.2.1 i), fun i q => (h.2.2.1 i q).trans (h'.2.2.1 i q),
    fun k => (h.2.2.2.1 k).trans (h'.2.2.2.1 k), fun n q => h'.2.2.2.2 n (h.2.2.2.2 n q)⟩
  rw [h'.1, h.1]

/-- A fold of events that each take at a member of `is` takes at members of `is` only. -/
theorem Releases.fold (f : EntryIdx → State → State) (hf : ∀ i s, Takes i s (f i s)) (js : List EntryIdx) (hj : ∀ j ∈ js, j ∈ is)
    (s : State) : Releases is s (js.foldl (fun t i => f i t) s) := by
  induction js generalizing s with
  | nil => exact (Delivers.refl s).releases
  | cons j rest ih =>
    exact ((hf j s).releases (hj j List.mem_cons_self)).trans (ih (fun x hx => hj x (List.mem_cons_of_mem _ hx)) _)

/-- Everything the release of several bindings can do (R90, R125). -/
theorem Releases.releaseAll (is : List EntryIdx) (s : State) : Releases is s (releaseAll is s) :=
  (Releases.fold Machine.unbind Takes.unbind is (fun _ h => h) s).trans
    (.fold Machine.settleRelease Takes.settleRelease is (fun _ h => h) _)

/-- Everything the second part of a lane loss can do (R124). -/
theorem Delivers.lossOfWork (k : LaneId) (s : State) : Delivers s (lossOfWork k s) := by
  have h : ∀ (is : List EntryIdx) (s : State), Delivers s (is.foldl (fun t i => Machine.offer i (Machine.withdraw i t)) s) := by
    intro is
    induction is with
    | nil => exact Delivers.refl
    | cons i rest ih => exact fun s => ((Delivers.withdraw i s).trans (.offer i _)).trans (ih _)
  exact h _ s

/-- What every event of the delivery side leaves as it was: every table but the entries, the lanes and the notices; the sweep, the pointer, the manager lane and the waiting commands. -/
def SameFrame (s t : State) : Prop :=
  t.groups = s.groups ∧ t.nodes = s.nodes ∧ t.ports = s.ports ∧ t.pointer = s.pointer ∧ t.manager = s.manager ∧
  t.sweep = s.sweep ∧ t.pending = s.pending

theorem SameFrame.trans (h : SameFrame s t) (h' : SameFrame t u) : SameFrame s u := by
  obtain ⟨a, b, c, d, e, f, g⟩ := h
  obtain ⟨a', b', c', d', e', f', g'⟩ := h'
  exact ⟨a'.trans a, b'.trans b, c'.trans c, d'.trans d, e'.trans e, f'.trans f, g'.trans g⟩

/-- A state that differs from another in the delivery tables alone has its frame. -/
theorem SameFrame.of (h : t = { s with entries := t.entries, lanes := t.lanes, notices := t.notices }) : SameFrame s t := by
  rw [h]
  repeat' constructor

theorem SameFrame.lossOfManagement (k : LaneId) (s : State) : SameFrame s (lossOfManagement k s) := by
  unfold Machine.lossOfManagement clearStaging
  dsimp only
  split <;> split <;> exact ⟨rfl, rfl, rfl, rfl, rfl, rfl, rfl⟩

/-- What a lane loss leaves as it was (R122). -/
theorem SameFrame.laneLoss (k : LaneId) (cause : LossCause) (s : State) : SameFrame s (laneLoss k cause s) := by
  have h := (((SameFrame.of (s := s) (t := lossOfLane k cause s) rfl).trans (.of (Delivers.lossOfWork k _).1)).trans
    (.of (t := lossOfBindings k (Machine.lossOfWork k (lossOfLane k cause s)))
      (Releases.releaseAll _ _).1)).trans (.lossOfManagement k _)
  unfold Machine.laneLoss
  dsimp only
  split
  · exact h.trans (.of (Delivers.raiseNotice _ _ _).1)
  · exact h

end Sys2Proof.Machine
end

