-- ==== Sys2Proof/Laws/Service.lean ====
section
/-!
SUPPORT. Everything the service of a request can do (R147 to R149): which request is served, and what each outcome leaves.
-/

namespace Sys2Proof.Machine

variable {s : State} {k : LaneId} {r : Request}

/-- Two changes of one lane are one change. -/
theorem modLane_modLane (s : State) (k : LaneId) (f g : Lane → Lane) :
    (s.modLane k f).modLane k g = s.modLane k fun l => g (f l) := by
  simp [State.modLane, State.lane]

/-- A response placed is the request answered (R149). -/
theorem respond_eq (k : LaneId) (r : Request) (reply : Reply) :
    respond k r reply = answered k r reply.outcome reply.data reply.after := by
  simp only [respond, queueControl, State.workToSend, modLane_modLane]
  rfl

/-- The request served stands in a slot, and no restart is pending (R147). -/
theorem nextRequest_slot (h : nextRequest s = some (k, r)) : s.restart = .no ∧ (s.lane k).slot = some r := by
  unfold nextRequest at h
  split at h
  · next hr =>
    refine ⟨hr, ?_⟩
    obtain ⟨j, -, hj⟩ := List.exists_of_findSome?_eq_some h
    cases hs : (s.lane j).slot with
    | none => rw [hs] at hj; cases hj
    | some q =>
      rw [hs] at hj
      simp only [Option.map_some, Option.some.injEq, Prod.mk.injEq] at hj
      rw [← hj.1, ← hj.2, hs]
  · cases h

/-- The service of a request that the rights allow (R148, R149). -/
theorem serve_of_serves {code : Nat} {write : Bool} (h : Serves s k r code write)
    (body : LaneId → List Byte → State → Reply) :
    serve code write body s =
      answered k r (body k r.args { s with pointer := k }).outcome (body k r.args { s with pointer := k }).data
        (body k r.args { s with pointer := k }).after := by
  obtain ⟨hn, hc, hp⟩ := h
  simp only [serve, hn, if_pos hc, serviceOf, hp, if_true, respond_eq]

/-- Everything a service can do: nothing, a refusal for want of rights, or its operation answered (R147 to R149). -/
theorem serve_cases (code : Nat) (write : Bool) (body : LaneId → List Byte → State → Reply) (s : State) :
    (serve code write body s = s ∧ ∀ k r, nextRequest s = some (k, r) → r.op.toNat ≠ code) ∨
    ∃ k r, nextRequest s = some (k, r) ∧ r.op.toNat = code ∧
      ((permitted write (s.lane k).settings.rights = false ∧
          serve code write body s = answered k r .refusedRights [] { s with pointer := k }) ∨
        (Serves s k r code write ∧
          serve code write body s =
            answered k r (body k r.args { s with pointer := k }).outcome (body k r.args { s with pointer := k }).data
              (body k r.args { s with pointer := k }).after)) := by
  cases hn : nextRequest s with
  | none => exact .inl ⟨by simp only [serve, hn], fun k r h => by cases h⟩
  | some q =>
    obtain ⟨k, r⟩ := q
    by_cases hc : r.op.toNat = code
    · refine .inr ⟨k, r, rfl, hc, ?_⟩
      cases hp : permitted write (s.lane k).settings.rights with
      | false =>
        refine .inl ⟨rfl, ?_⟩
        simp only [serve, hn, if_pos hc, serviceOf, hp, respond_eq]
        rfl
      | true => exact .inr ⟨⟨hn, hc, hp⟩, serve_of_serves ⟨hn, hc, hp⟩ body⟩
    · refine .inl ⟨by simp only [serve, hn, if_neg hc], fun k' r' h => ?_⟩
      simp only [Option.some.injEq, Prod.mk.injEq] at h
      rw [← h.2]
      exact hc

section answered
variable (k : LaneId) (r : Request) (o : MgmtOutcome) (d : List Byte) (s : State)

@[simp] theorem answered_entries : (answered k r o d s).entries = s.entries := rfl
@[simp] theorem answered_groups : (answered k r o d s).groups = s.groups := rfl
@[simp] theorem answered_nodes : (answered k r o d s).nodes = s.nodes := rfl
@[simp] theorem answered_ports : (answered k r o d s).ports = s.ports := rfl
@[simp] theorem answered_pointer : (answered k r o d s).pointer = s.pointer := rfl
@[simp] theorem answered_restart : (answered k r o d s).restart = s.restart := rfl
@[simp] theorem answered_staging : (answered k r o d s).staging = s.staging := rfl
@[simp] theorem answered_owner : (answered k r o d s).owner = s.owner := rfl
@[simp] theorem answered_notices : (answered k r o d s).notices = s.notices := rfl
@[simp] theorem answered_manager : (answered k r o d s).manager = s.manager := rfl
@[simp] theorem answered_sweep : (answered k r o d s).sweep = s.sweep := rfl
@[simp] theorem answered_pending : (answered k r o d s).pending = s.pending := rfl

/-- What answering a request does to each lane. -/
theorem answered_lane (j : LaneId) :
    (answered k r o d s).lane j = if j = k then
        Lane.workToSend
          { s.lane j with slot := none, control := (s.lane j).control ++ [{ tag := r.tag, op := r.op, outcome := o, data := d }] }
      else s.lane j := by
  unfold answered
  rw [lane_modLane]
  split
  · next h => subst h; rfl
  · rfl

end answered

end Sys2Proof.Machine
end

