-- ==== Sys2Proof/Laws/Settle.lean ====
section
/-!
SUPPORT. What the end of an event does (R127): it sets the idle timing of the lanes and nothing else. And which expiry of a lane is due.
-/

namespace Sys2Proof.Machine

theorem event_next (crossed : Option LaneId) (s : State) (f : State → State) :
    event crossed s f = .next (settle crossed s (f s)) := rfl

/-- The start of idleness sets the two idle timers of an ACTIVE lane and nothing else. -/
theorem startIdle_still (l : Lane) (h : l.state = .active) : l.startIdle.still = l.still := by
  unfold Lane.startIdle Lane.still
  by_cases d : l.settings.dozeAfter = 0
  · simp only [if_pos d]
  · simp only [if_neg d, h, if_true]

/-- The end of an event changes nothing of a lane but its idle timing. -/
theorem settleIdle_still (a b : Bool) (l : Lane) : (l.settleIdle a b).still = l.still := by
  unfold Lane.settleIdle
  by_cases h : l.state = .active
  · cases a <;> cases b <;> simp [h, startIdle_still] <;> simp [Lane.still, h]
  · simp [h, Lane.still]

theorem settle_lane (c : Option LaneId) (s u : State) (k : LaneId) :
    (settle c s u).lane k = (u.lane k).settleIdle (u.idle k) (!s.idle k || decide (c = some k)) := by
  simp [settle]

theorem still_lane (s : State) (k : LaneId) : s.still.lane k = (s.lane k).still := by
  simp [State.still]

/-- Two lane tables with equal rows are equal. -/
theorem lanes_ext {v w : Vector Lane 8} (h : ∀ k : LaneId, v[k.val] = w[k.val]) : v = w := by
  apply Vector.ext
  intro i hi
  exact h ⟨i, hi⟩

/-- The end of an event changes nothing of the state but the lanes' idle timing. -/
theorem settle_still (c : Option LaneId) (s u : State) : (settle c s u).still = u.still := by
  have h : (settle c s u).still.lanes = u.still.lanes := by
    apply lanes_ext
    intro k
    have := still_lane (settle c s u) k
    rw [settle_lane, settleIdle_still] at this
    exact this.trans (still_lane u k).symm
  have hr : (settle c s u).still = { u with lanes := (settle c s u).still.lanes } := rfl
  rw [hr, h]
  rfl

/-- A lane's due expiry is that of one of its own timers that has no time left. -/
theorem due_elapsed {s : State} {k : LaneId} {c : Instr} (h : (s.lane k).due k = some c) : s.elapsed c := by
  unfold Lane.due at h
  split_ifs at h <;> simp at h <;> subst h <;> simp [State.elapsed, *]

/-- A lane has no due expiry exactly when none of its timers has run out. -/
theorem due_none (l : Lane) (k : LaneId) : l.due k = none ↔
    l.idleTimer ≠ some 0 ∧ l.deepTimer ≠ some 0 ∧ l.parkReplyTimer ≠ some 0 ∧ l.wakeTimer ≠ some 0 := by
  unfold Lane.due
  split_ifs <;> simp [*]

section settle
variable (c : Option LaneId) (s u : State)

@[simp] theorem settle_entries : (settle c s u).entries = u.entries := rfl
@[simp] theorem settle_groups : (settle c s u).groups = u.groups := rfl
@[simp] theorem settle_nodes : (settle c s u).nodes = u.nodes := rfl
@[simp] theorem settle_ports : (settle c s u).ports = u.ports := rfl
@[simp] theorem settle_pointer : (settle c s u).pointer = u.pointer := rfl
@[simp] theorem settle_restart : (settle c s u).restart = u.restart := rfl
@[simp] theorem settle_staging : (settle c s u).staging = u.staging := rfl
@[simp] theorem settle_owner : (settle c s u).owner = u.owner := rfl
@[simp] theorem settle_notices : (settle c s u).notices = u.notices := rfl
@[simp] theorem settle_manager : (settle c s u).manager = u.manager := rfl
@[simp] theorem settle_sweep : (settle c s u).sweep = u.sweep := rfl
@[simp] theorem settle_pending : (settle c s u).pending = u.pending := rfl
@[simp] theorem settle_entry (i : EntryIdx) : (settle c s u).entry i = u.entry i := rfl
@[simp] theorem settle_group (g : GroupId) : (settle c s u).group g = u.group g := rfl
@[simp] theorem settle_node (p : Port) (n : Node) : (settle c s u).node p n = u.node p n := rfl
@[simp] theorem settle_port (p : Port) : (settle c s u).port p = u.port p := rfl
@[simp] theorem settle_notice (m : NoticeKind) : (settle c s u).notice m = u.notice m := rfl

end settle

section settleIdle
variable (a b : Bool) (l : Lane)

@[simp] theorem settleIdle_state : (l.settleIdle a b).state = l.state := congrArg (fun m => m.state) (settleIdle_still a b l)
@[simp] theorem settleIdle_link : (l.settleIdle a b).link = l.link := congrArg (fun m => m.link) (settleIdle_still a b l)
@[simp] theorem settleIdle_helloReply : (l.settleIdle a b).helloReply = l.helloReply := congrArg (fun m => m.helloReply) (settleIdle_still a b l)
@[simp] theorem settleIdle_control : (l.settleIdle a b).control = l.control := congrArg (fun m => m.control) (settleIdle_still a b l)
@[simp] theorem settleIdle_parkReplyTimer : (l.settleIdle a b).parkReplyTimer = l.parkReplyTimer := congrArg (fun m => m.parkReplyTimer) (settleIdle_still a b l)
@[simp] theorem settleIdle_wakeTimer : (l.settleIdle a b).wakeTimer = l.wakeTimer := congrArg (fun m => m.wakeTimer) (settleIdle_still a b l)
@[simp] theorem settleIdle_wakePending : (l.settleIdle a b).wakePending = l.wakePending := congrArg (fun m => m.wakePending) (settleIdle_still a b l)
@[simp] theorem settleIdle_deepParkDue : (l.settleIdle a b).deepParkDue = l.deepParkDue := congrArg (fun m => m.deepParkDue) (settleIdle_still a b l)
@[simp] theorem settleIdle_bridgeWake : (l.settleIdle a b).bridgeWake = l.bridgeWake := congrArg (fun m => m.bridgeWake) (settleIdle_still a b l)
@[simp] theorem settleIdle_hostWake : (l.settleIdle a b).hostWake = l.hostWake := congrArg (fun m => m.hostWake) (settleIdle_still a b l)
@[simp] theorem settleIdle_settings : (l.settleIdle a b).settings = l.settings := congrArg (fun m => m.settings) (settleIdle_still a b l)
@[simp] theorem settleIdle_counters : (l.settleIdle a b).counters = l.counters := congrArg (fun m => m.counters) (settleIdle_still a b l)
@[simp] theorem settleIdle_queue : (l.settleIdle a b).queue = l.queue := congrArg (fun m => m.queue) (settleIdle_still a b l)
@[simp] theorem settleIdle_held : (l.settleIdle a b).held = l.held := congrArg (fun m => m.held) (settleIdle_still a b l)
@[simp] theorem settleIdle_creditLimit : (l.settleIdle a b).creditLimit = l.creditLimit := congrArg (fun m => m.creditLimit) (settleIdle_still a b l)
@[simp] theorem settleIdle_availableCredit : (l.settleIdle a b).availableCredit = l.availableCredit := congrArg (fun m => m.availableCredit) (settleIdle_still a b l)
@[simp] theorem settleIdle_enqueueSeq : (l.settleIdle a b).enqueueSeq = l.enqueueSeq := congrArg (fun m => m.enqueueSeq) (settleIdle_still a b l)
@[simp] theorem settleIdle_slot : (l.settleIdle a b).slot = l.slot := congrArg (fun m => m.slot) (settleIdle_still a b l)
@[simp] theorem settleIdle_readPos : (l.settleIdle a b).readPos = l.readPos := congrArg (fun m => m.readPos) (settleIdle_still a b l)
@[simp] theorem settleIdle_sending : (l.settleIdle a b).sending = l.sending := congrArg (fun m => m.sending) (settleIdle_still a b l)

end settleIdle

end Sys2Proof.Machine
end

