-- ==== Sys2Proof/Laws/Wire.lean ====
section
/-!
SUPPORT. What the bytes of a frame are and how its receiver judges them.
-/

namespace Sys2Proof.Machine

/-- A 16-bit value in two bytes is its high and its low half. -/
theorem twoBytes_toNat (x : BitVec 16) : twoBytes x.toNat = [x.extractLsb' 8 8, x.extractLsb' 0 8] := by
  simp only [twoBytes, List.cons.injEq, and_true]
  constructor <;> apply BitVec.eq_of_toNat_eq <;> simp [Nat.shiftRight_eq_div_pow]

/-- A field frame passes its length and its check, and is then read by its kind (R28 to R30). -/
theorem judgeField_fieldFrameBytes (p : Port) (b0 b1 b2 : Byte) :
    judgeField p (fieldFrameBytes b0 b1 b2) = decodeField p b0 b1 b2 := by
  simp [judgeField, fieldFrameBytes]

/-- A lane frame with a payload of at most 60 bytes passes its length and its check, and is then read by its kind (R197). -/
theorem judgeLane_laneFrameBytes (k : LaneId) (hostWake : Bool) (kind : Byte) (payload : List Byte)
    (h : payload.length ≤ 60) : judgeLane k hostWake (laneFrameBytes kind payload) = decodeLane k hostWake kind payload := by
  have hl : (oneByte payload.length).toNat = payload.length := by simp [oneByte]; omega
  simp [laneFrameBytes, judgeLane, hl, Config.maxPayload, h, twoBytes]

end Sys2Proof.Machine
end

