-- ==== Sys2Proof/Tests/Slice0.lean ====
section
/-!
SUPPORT. Tests. First the ill-formed commands that `wellFormed` refuses and the bytes of frames, then commands on small states with results taken from the manual, then, for
every statement of Certificates/Slice0/Obligations.lean that has hypotheses, a witness: a state and operands that meet the hypotheses of each clause.
-/

namespace Sys2Proof.Tests

open Sys2Proof.Machine

-- One theorem is checked after the other: each is one kernel evaluation, and many at once need too many threads.
set_option Elab.async false

/-! ### Well-formedness, one ill-formed command for each check -/

/-- A RAISE frame with a good check is no discarded frame. -/
theorem test_wellFormed_field_frame_that_passes : wellFormed (.fieldFrameDiscarded 0 (fieldFrameBytes 0x05 0x13 0x00)) = false := by decide +kernel

theorem test_wellFormed_field_frame_that_fails : wellFormed (.fieldFrameDiscarded 0 [0x05, 0x13, 0x00]) = true := by decide +kernel

/-- A RETIRE frame with a good check is no discarded frame. -/
theorem test_wellFormed_lane_frame_that_passes : wellFormed (.laneFrameDiscarded 3 (laneFrameBytes 0x21 [0x28])) = false := by decide +kernel

theorem test_wellFormed_lane_frame_of_the_bridge : wellFormed (.laneFrameDiscarded 3 (laneFrameBytes 0x11 [0x28])) = true := by decide +kernel

theorem test_wellFormed_payload_of_61 : wellFormed (.mgmtRequest 0 (List.replicate 61 0)) = false := by decide +kernel

theorem test_wellFormed_payload_of_60 : wellFormed (.mgmtRequest 0 (List.replicate 60 0)) = true := by decide +kernel

theorem test_wellFormed_port_named_twice : wellFormed (.powerOnReset [1, 1] [] []) = false := by decide +kernel

theorem test_wellFormed_lane_named_twice : wellFormed (.powerOnReset [] [2, 2] []) = false := by decide +kernel

theorem test_wellFormed_wake_named_twice : wellFormed (.powerOnReset [] [] [7, 7]) = false := by decide +kernel

/-! ### Bytes: frames written out from the layouts of chapter 11 -/

/-- The published check values of the two codes' generators over the digits 1 to 9. -/
theorem test_crc8_of_the_nine_digits : crc8 [0x31, 0x32, 0x33, 0x34, 0x35, 0x36, 0x37, 0x38, 0x39] = 0xF4 := by decide +kernel

theorem test_crc16_of_the_nine_digits : crc16 [0x31, 0x32, 0x33, 0x34, 0x35, 0x36, 0x37, 0x38, 0x39] = 0x29B1 := by decide +kernel

/-- Kind 0, node 5; line 1, count 3. -/
theorem test_receive_raise : receiveField 2 [0x05, 0x13, 0x00, crc8 [0x05, 0x13, 0x00]] = .raise 2 5 1 3 := by decide +kernel

/-- Kind 1, node 63; line 0, count 15. -/
theorem test_receive_drop : receiveField 2 [0x7F, 0x0F, 0x00, crc8 [0x7F, 0x0F, 0x00]] = .drop 2 63 0 15 := by decide +kernel

/-- Kind 2, node 9; line 0 asserted with count 2, line 1 deasserted with count 11. -/
theorem test_receive_present : receiveField 0 [0x89, 0x12, 0x0B, crc8 [0x89, 0x12, 0x0B]] = .present 0 9 true 2 false 11 := by decide +kernel

/-- Kind 3 is none that a node sends (R30). -/
theorem test_receive_kind_three : receiveField 0 [0xC9, 0x01, 0x00, crc8 [0xC9, 0x01, 0x00]] = .fieldFrameDiscarded 0 [0xC9, 0x01, 0x00, crc8 [0xC9, 0x01, 0x00]] := by decide +kernel

theorem test_receive_hello : receiveLane 4 false (laneFrameBytes 0x10 [0x40]) = .hello 4 64 := by decide +kernel

/-- A HELLO without its limit reads it as 0 (R198). -/
theorem test_receive_hello_without_limit : receiveLane 4 false (laneFrameBytes 0x10 []) = .hello 4 0 := by decide +kernel

theorem test_receive_request : receiveLane 1 false (laneFrameBytes 0x30 [0x2A, 0x15]) = .mgmtRequest 1 [0x2A, 0x15] := by decide +kernel

/-- The table gives its rows no bits, so that no word spells a command. -/
theorem test_no_word_spells_a_command : decodeTableWord 0 0 = none := rfl

/-! ### Commands on small states -/

/-- The state after a command. -/
def after (c : Instr) (s : State) : State :=
  match exec c s with
  | .next t => t
  | .fault f => nomatch f
  | .refused _ => s

/-- An OPEN configuration. -/
def opened (t : Trigger) (v : Byte) (p : Priority) (g : GroupId) : Image := { mask := .opened, trigger := t, vector := v, priority := p, group := g }

/-- Entry `i` configured with an image as a commit leaves it, with raise count 3 known. -/
def configured (img : Image) (i : EntryIdx) : Entry :=
  { Entry.powerOn i with image := img, code := { image := img, index := i }, workMask := img.mask, workTrigger := img.trigger, raiseCount := some 3 }

/-- An ACTIVE lane with a credit limit of 3 and one credit. -/
def activeLane (k : LaneId) : Lane := { Lane.powerOn k with state := .active, link := true, creditLimit := some 3, availableCredit := 1 }

/-- Lane 0 ACTIVE, port 0 up, entry 10 (port 0, node 5, line 0) EDGE with vector 40. -/
def edgeState : State :=
  ((State.reset.modLane 0 fun _ => activeLane 0).modPort 0 fun r => { r with link := true }).modEntry 10 fun _ => configured (opened .edge 40 1 0) 10

/-- R37: recorded count 3, frame count 6: diff 3, pending count 3, two missed; the entry is queued on the group's only lane. -/
theorem test_raise_with_two_missed :
    (after (.raise 0 5 0 6) edgeState).entry 10 =
      { configured (opened .edge 40 1 0) 10 with state := .queued 0, line := true, raiseCount := some 6, pendingCount := 3 } ∧
    ((after (.raise 0 5 0 6) edgeState).port 0).missedRaises = 2 := by decide +kernel

/-- R36: the count wraps: 3 again is a duplicate, 2 is a diff of 15. -/
theorem test_raise_duplicate : ((after (.raise 0 5 0 3) edgeState).port 0).duplicates = 1 ∧
    ((after (.raise 0 5 0 2) edgeState).entry 10).pendingCount = 15 := by decide +kernel

/-- R40: an EDGE line's missed raise is delivered before the line falls. -/
theorem test_drop_with_one_missed : ((after (.drop 0 5 0 4) edgeState).entry 10).pendingCount = 1 ∧
    ((after (.drop 0 5 0 4) edgeState).entry 10).line = false ∧ ((after (.drop 0 5 0 4) edgeState).port 0).missedRaises = 1 := by decide +kernel

/-- R100: the first frame of a node makes it PRESENT with the quiet time of 40 ms and raises NODE_ARRIVED with detail port·64 + node. -/
theorem test_node_arrives : (after (.present 0 5 false 3 false 0) edgeState).node 0 5 = { presence := .present, quietTimer := some 40000, probeWaiting := false } ∧
    ((after (.present 0 5 false 3 false 0) edgeState).notice .nodeArrived).detail = 5 := by decide +kernel

/-- R16: a waiting EDGE entry keeps its place and its counts add up; a second entry of the same priority stands behind it (R66). -/
theorem test_raise_coalesces :
    ((after (.raise 0 5 0 5) (after (.raise 0 5 0 4) edgeState)).entry 10).pendingCount = 2 ∧
    ((after (.raise 0 5 0 5) (after (.raise 0 5 0 4) edgeState)).lane 0).queue.length = 1 := by decide +kernel

/-- R72: the send of an EDGE entry's item: IDLE with pending count 0, and the EVENT frame carries the count. -/
theorem test_send_edge :
    let t := after (.send 0) (clearKinds noticeKinds (after (.raise 0 5 0 6) edgeState))
    (t.entry 10).state = .idle ∧ (t.lane 0).availableCredit = 0 ∧ (t.lane 0).sending = some (.event 40 10 1 .edge 3) := by decide +kernel

/-- R72, R85: the send of a LEVEL entry's item binds the entry to the lane and its vector, with count 1 in the frame. -/
theorem test_send_level :
    let s := edgeState.modEntry 10 fun _ => configured (opened .level 41 2 0) 10
    let t := after (.send 0) (clearKinds noticeKinds (after (.raise 0 5 0 6) s))
    (t.entry 10).state = .outstanding 0 41 ∧ (t.lane 0).sending = some (.event 41 10 2 .level 1) := by decide +kernel

/-- The EVENT frame on the wire: vector, port·64 + node, trigger, priority and line, count. -/
theorem test_event_frame : (LaneFrame.event 41 10 2 .level 1).wire.take 6 = [0x20, 0x04, 41, 0x05, 0xA0, 0x01] := by decide +kernel

theorem test_field_frame_discarded : ((after (.fieldFrameDiscarded 0 [1, 2]) edgeState).port 0).framesDiscarded = 1 ∧
    ((after (.fieldFrameDiscarded 1 [1, 2]) edgeState).port 1).framesDiscarded = 0 := by decide +kernel

/-- R105: PORT_LINK with detail p. R106: PORT_LINK with detail 4 + p, and a ROLLCALL. -/
theorem test_port_link_lost : ((after (.portLinkLoss 0) edgeState).notice .portLink).detail = 0 ∧
    ((after (.portLinkLoss 0) edgeState).port 0).link = false := by decide +kernel

theorem test_port_link_gained : ((after (.portLinkGained 3) edgeState).notice .portLink).detail = 7 ∧
    ((after (.portLinkGained 3) edgeState).port 3).sendList = [.rollcall] := by decide +kernel

/-- R101: a PRESENT node that is silent is DOUBTED and probed. R102: a DOUBTED one is ABSENT, with NODE_LOST. -/
theorem test_quiet_timer_doubts :
    let t := after (.quietTimerExpiry 0 5) (after (.present 0 5 false 3 false 0) edgeState)
    (t.node 0 5).presence = .doubted ∧ (t.port 0).sendList = [.probe 5] := by decide +kernel

theorem test_quiet_timer_declares_absent :
    let t := after (.quietTimerExpiry 0 5) (after (.quietTimerExpiry 0 5) (after (.present 0 5 true 3 false 0) edgeState))
    (t.node 0 5).presence = .absent ∧ (t.port 0).sendList = [] ∧ (t.notice .nodeLost).detail = 5 ∧ (t.entry 10).raiseCount = none := by decide +kernel

theorem test_probe_sent :
    let t := after (.probe 0) (after (.quietTimerExpiry 0 5) (after (.present 0 5 false 3 false 0) edgeState))
    (t.port 0).sending = some (.probe 5) ∧ (t.node 0 5).probeWaiting = false := by decide +kernel

theorem test_rollcall_sent : ((after (.rollcall 3) (after (.portLinkGained 3) edgeState)).port 3).sending = some .rollcall ∧
    ((after (.portTransmissionComplete 3) (after (.rollcall 3) (after (.portLinkGained 3) edgeState))).port 3).sending = none := by decide +kernel

/-- R3: the working values stand; the next offer finds the mismatch and quarantines the entry (R20). -/
theorem test_storage_fault :
    let s := after (.storageFault 10 (.image (opened .edge 99 1 0))) edgeState
    (s.entry 10).workMask = .opened ∧ ((after (.raise 0 5 0 4) s).entry 10).state = .latched ∧
      ((after (.raise 0 5 0 4) s).notice .tableFault).detail = 10 := by decide +kernel

/-- R119: the limit is taken as limit and credit. A limit of 65 is answered HELLO_NAK. -/
theorem test_hello : ((after (.hello 4 64) (after (.laneLinkGained 4) edgeState)).lane 4).availableCredit = 64 ∧
    ((after (.hello 4 65) (after (.laneLinkGained 4) edgeState)).lane 4).helloReply = some (.nak 65) := by decide +kernel

/-- R120: a HELLO on a live lane raises LANE_DOWN with lane·16 + 4. -/
theorem test_hello_restarts : ((after (.hello 0 8) edgeState).notice .laneDown).detail = 4 ∧
    ((after (.hello 0 8) edgeState).lane 0).creditLimit = some 8 := by decide +kernel

theorem test_goodbye : ((after (.goodbye 0) edgeState).lane 0).state = .down ∧
    ((after (.goodbye 0) edgeState).notice .laneDown).isSet = false := by decide +kernel

/-- R89: the line still asserted, the released entry waits again. R91: the second RETIRE is stray. -/
theorem test_retire :
    let s := edgeState.modEntry 10 fun _ => { configured (opened .level 41 2 0) 10 with state := .outstanding 0 41, line := true }
    ((after (.retire 0 41) s).entry 10).state = .queued 0 ∧ ((after (.retire 0 7) s).notice .strayRetire).detail = 7 := by decide +kernel

/-- R77: limit 3, credit 1, count 5: the credit is 3 and the excess 3. -/
theorem test_credit_overrun : ((after (.credit 0 5) edgeState).lane 0).availableCredit = 3 ∧
    ((after (.credit 0 5) edgeState).lane 0).counters.creditsOverrun = 3 := by decide +kernel

/-- R145: the slot takes the first request; the second is refused REFUSED_BUSY; a payload of one byte is dropped. -/
theorem test_request_busy :
    ((after (.mgmtRequest 0 [2, 1]) (after (.mgmtRequest 0 [1, 9, 4]) edgeState)).lane 0).slot = some ⟨1, 9, [4]⟩ ∧
    ((after (.mgmtRequest 0 [2, 1]) (after (.mgmtRequest 0 [1, 9, 4]) edgeState)).lane 0).control = [⟨2, 1, .refusedBusy, []⟩] := by decide +kernel

theorem test_request_dropped : ((after (.mgmtRequest 0 [2]) edgeState).lane 0).counters.requestsDropped = 1 := by decide +kernel

/-- A lane as the tests of the park handshake need it. -/
def parked (st : LaneState) (reply : Option Nat) : State :=
  edgeState.modLane 0 fun l => { l with state := st, parkReplyTimer := reply, deepTimer := some 480000 }

/-- R129: PARK_ACK enters DOZE with the deep timer running on; a host wake input that is high wakes it at once, without the bridge wake signal (R132). -/
theorem test_park_ack : ((after (.parkAck 0 false) (parked (.parking .doze) (some 2000))).lane 0).state = .doze ∧
    ((after (.parkAck 0 false) (parked (.parking .doze) (some 2000))).lane 0).deepTimer = some 480000 := by decide +kernel

theorem test_park_ack_with_host_wake : ((after (.parkAck 0 true) (parked (.parking .doze) (some 2000))).lane 0).wakeTimer = some 1000 ∧
    ((after (.parkAck 0 true) (parked (.parking .doze) (some 2000))).lane 0).bridgeWake = false := by decide +kernel

/-- R129: a declined deep park goes back to DOZE with deep-after less doze-after, 500 ms less 20 ms. -/
theorem test_park_nak : ((after (.parkNak 0 false) (parked (.parking .deep) (some 2000))).lane 0).state = .doze ∧
    ((after (.parkNak 0 false) (parked (.parking .deep) (some 2000))).lane 0).deepTimer = some 480000 := by decide +kernel

theorem test_park_reply_timeout : ((after (.parkReplyTimeout 0 false) (parked (.parking .doze) (some 0))).lane 0).state = .active ∧
    ((after (.parkReplyTimeout 0 false) (parked (.parking .doze) (some 0))).lane 0).counters.parksDeclined = 1 := by decide +kernel

theorem test_ready_ends_a_wake :
    let s := edgeState.modLane 0 fun l => { l with state := .waking, wakeTimer := some 7, bridgeWake := true }
    ((after (.ready 0) s).lane 0).state = .active ∧ ((after (.ready 0) s).lane 0).bridgeWake = false := by decide +kernel

theorem test_lane_frame_discarded : ((after (.laneFrameDiscarded 0 [0x21, 0x00]) edgeState).lane 0).counters.framesDiscarded = 1 := by decide +kernel

/-- R122: LANE_DOWN with lane·16 + 1. -/
theorem test_lane_link_lost : ((after (.laneLinkLost 0) edgeState).notice .laneDown).detail = 1 ∧
    ((after (.laneLinkLost 0) edgeState).lane 0).link = false := by decide +kernel

theorem test_host_wake : ((after (.hostWakeRaised 0) (parked .deep none)).lane 0).wakeTimer = some 20000 ∧
    ((after (.hostWakeRaised 0) (parked .deep none)).lane 0).bridgeWake = false := by decide +kernel

theorem test_idle_timer : ((after (.idleTimerExpiry 0) (after (.credit 0 0) (edgeState.modLane 0 fun l => { l with idleTimer := some 5 }))).lane 0).state = .parking .doze := by decide +kernel

theorem test_deep_timer : ((after (.deepTimerExpiry 0) (parked .doze none)).lane 0).state = .parking .deep ∧
    ((after (.deepTimerExpiry 0) (parked (.parking .doze) none)).lane 0).deepParkDue = true := by decide +kernel

/-- R133: LANE_DOWN with lane·16 + 3. -/
theorem test_wake_timer :
    ((after (.wakeTimerExpiry 0) (edgeState.modLane 0 fun l => { l with state := .waking, wakeTimer := some 0 })).notice .laneDown).detail = 3 := by decide +kernel

/-- R136: the hello reply before all else; HELLO_ACK carries the lane, vendor 3A7h, part 4816h and revision 2. -/
theorem test_hello_reply_grant :
    ((after (.helloReplyGrant 4) (after (.hello 4 8) (after (.laneLinkGained 4) edgeState))).lane 4).sending = some (.helloAck 4) ∧
    (LaneFrame.helloAck 4).wire.take 8 = [0x11, 0x06, 4, 0x03, 0xA7, 0x48, 0x16, 2] := by decide +kernel

theorem test_park_grant : ((after (.parkGrant 0) (parked (.parking .deep) none)).lane 0).sending = some (.park .deep) ∧
    ((after (.parkGrant 0) (parked (.parking .deep) none)).lane 0).parkReplyTimer = some 2000 := by decide +kernel

/-- R184: the unsent kind with the lowest number, on the manager lane. -/
theorem test_notice_grant :
    let s := raiseNotice .portLink 2 (raiseNotice .laneDown 17 edgeState)
    ((after .noticeGrant s).lane 0).sending = some (.notice .portLink 2 0) ∧ ((after .noticeGrant s).notice .portLink).sent = true := by decide +kernel

/-! ### Management -/

/-- Lane 0, ACTIVE with FULL rights, has a request in its slot. -/
def asking (op : Byte) (args : List Byte) : State := edgeState.modLane 0 fun l => { l with slot := some { tag := 1, op := op, args := args } }

/-- The response at the head of lane 0's control queue. -/
def answer0 (s : State) : Option Response := (s.lane 0).control.head?

theorem test_identify : answer0 (after .identify (asking 0x01 [])) =
    some ⟨1, 0x01, .done, [0x03, 0xA7, 0x48, 0x16, 2, 4, 8, 0x02, 0x00, 16, 32, 16, 0, 2]⟩ := by decide +kernel

/-- The entry index, the image (OPEN, EDGE, priority 1; group 0; vector 40), the dynamic image (IDLE; count 3; 0; no lane; no vector). -/
theorem test_read_entry : answer0 (after .readEntry (asking 0x02 [0, 10])) =
    some ⟨1, 0x02, .done, [0, 10, 0x41, 0, 40, 0, 0x03, 0, 0xFF, 0]⟩ := by decide +kernel

theorem test_read_entry_out_of_range : answer0 (after .readEntry (asking 0x02 [2, 0])) = some ⟨1, 0x02, .refusedRange, []⟩ := by decide +kernel

theorem test_read_group : answer0 (after .readGroup (asking 0x03 [0])) = some ⟨1, 0x03, .done, [0, 0x01, 0, 0, 0, 0]⟩ := by decide +kernel

theorem test_read_lane : (answer0 (after (.readLane false) (asking 0x04 [1]))).map (fun r => r.data.take 19) =
    some [1, 1, 1, 1, 1, 20, 50, 1, 0, 0, 0, 0, 0, 0, 0, 0xFF, 0, 0, 0] := by decide +kernel

theorem test_read_node : answer0 (after .readNode (after (.present 0 5 false 3 false 0) (asking 0x05 [0, 5]))) =
    some ⟨1, 0x05, .done, [1, 1, 40, 0]⟩ := by decide +kernel

theorem test_read_port : answer0 (after .readPort (after (.raise 0 5 0 6) (asking 0x06 [0]))) =
    some ⟨1, 0x06, .done, [0, 40, 0, 0, 0, 1, 0, 0, 0, 0, 0, 0, 0, 0, 0, 0, 0, 2]⟩ := by decide +kernel

theorem test_read_notices : (answer0 (after .readNotices (asking 0x07 []))).map (fun r => (r.data.head?, r.data.length)) = some (some 0, 51) := by decide +kernel

theorem test_read_staging : answer0 (after .readStaging (asking 0x08 [])) = some ⟨1, 0x08, .done, [0xFF, 0, 0]⟩ := by decide +kernel

theorem test_read_sweep : answer0 (after .readSweep (asking 0x09 [])) = some ⟨1, 0x09, .done, [0, 0, 0, 0, 0]⟩ := by decide +kernel

theorem test_stage_entry : answer0 (after .stageEntry (asking 0x0A [1, 44, 0x52, 5, 31])) = some ⟨1, 0x0A, .done, [0, 1]⟩ ∧
    (after .stageEntry (asking 0x0A [1, 44, 0x52, 5, 31])).staging = [.entry 300 (opened .level 31 2 5)] := by decide +kernel

theorem test_stage_group : (after .stageGroup (asking 0x0B [5, 0x42, 0x21, 0, 0, 0])).staging = [.group 5 { policy := .balance, lanes := [2, 1] }] := by decide +kernel

/-- A staging list of lane 0 with two records. -/
def staged : State := { asking 0x0C [] with staging := [.group 5 { policy := .prefer, lanes := [0] }, .entry 300 (opened .edge 31 2 5)], owner := some 0 }

theorem test_commit : answer0 (after .commit staged) = some ⟨1, 0x0C, .done, [2]⟩ ∧ (after .commit staged).staging = [] ∧
    ((after .commit staged).entry 300).workMask = .opened ∧ ((after .commit staged).group 5).lanes = [0] := by decide +kernel

/-- R173: an OPEN record with vector 0 fails, at position 0 with reason 1. -/
theorem test_commit_vector_zero :
    answer0 (after .commit { staged with staging := [.entry 300 (opened .edge 0 2 0)] }) = some ⟨1, 0x0C, .refusedValidation, [0, 1]⟩ := by decide +kernel

theorem test_discard : answer0 (after .discard { asking 0x0D [] with staging := [.entry 300 (opened .edge 1 2 5)], owner := some 0 }) =
    some ⟨1, 0x0D, .done, [1]⟩ := by decide +kernel

/-- Section 8 (R155): doze-after 20 with deep-after 2 is refused, with deep-after 3 it passes. -/
theorem test_set_lane_deep_after : answer0 (after .setLane (asking 0x0E [1, 1, 20, 2, 1])) = some ⟨1, 0x0E, .refusedRange, []⟩ ∧
    answer0 (after .setLane (asking 0x0E [1, 1, 20, 3, 1])) = some ⟨1, 0x0E, .done, []⟩ := by decide +kernel

/-- R156: the requesting lane may not disable itself, and the last FULL lane may not give its rights up. -/
theorem test_set_lane_refusals : answer0 (after .setLane (asking 0x0E [0, 2, 20, 50, 0])) = some ⟨1, 0x0E, .refusedSelf, []⟩ ∧
    answer0 (after .setLane (asking 0x0E [0, 1, 20, 50, 1])) = some ⟨1, 0x0E, .refusedLastManager, []⟩ := by decide +kernel

theorem test_set_port : ((after .setPort (asking 0x0F [1, 25])).port 1).quietTime = 25 ∧
    answer0 (after .setPort (asking 0x0F [1, 0])) = some ⟨1, 0x0F, .refusedRange, []⟩ := by decide +kernel

theorem test_set_manager : (after .setManager (asking 0x10 [6])).manager = 6 := by decide +kernel

theorem test_clear_notices :
    let s := raiseNotice .laneDown 17 (asking 0x11 [1, 4])
    answer0 (after .clearNotices s) = some ⟨1, 0x11, .done, [1, 0, 0, 17, 0]⟩ ∧ (after .clearNotices s).notice .laneDown = NoticeRecord.clear := by decide +kernel

theorem test_clear_counters : ((after .clearCounters (after (.raise 0 5 0 6) (asking 0x12 [1, 0]))).port 0).framesAccepted = 0 := by decide +kernel

theorem test_force_retire :
    let s := (asking 0x13 [0, 10]).modEntry 10 fun _ => { configured (opened .level 41 2 0) 10 with state := .outstanding 0 41 }
    answer0 (after .forceRetire s) = some ⟨1, 0x13, .done, [0, 41, 0]⟩ ∧ ((after .forceRetire s).entry 10).state = .idle := by decide +kernel

theorem test_sweep_starts : (after .startSweep (asking 0x14 [])).sweep = { running := true, position := 0, faultsFound := 0, visitTimer := some 40 } := by decide +kernel

/-- R191: the visit of an entry that does not match. -/
theorem test_sweep_visit :
    let s := (after .startSweep (asking 0x14 [])).modEntry 0 fun e => { e with image := opened .edge 1 0 0 }
    (after .sweepVisit s).sweep = { running := true, position := 1, faultsFound := 1, visitTimer := some 40 } ∧ ((after .sweepVisit s).entry 0).quarantined = true := by decide +kernel

/-- R161, R162: RESTART answers DONE; when that frame completes the restart event is due, and it brings every lane down. -/
theorem test_restart :
    let s := after (.transmissionComplete 0) (after (.mgmtResponseGrant 0) (after .restart (asking 0x15 [])))
    s.restart = .due ∧ ((after .restartEvent s).lane 0).state = .down ∧ (after .restartEvent s).restart = .no := by decide +kernel

theorem test_unknown_operation : answer0 (after .refusedUnknown (asking 0x16 [])) = some ⟨1, 0x16, .refusedUnknown, []⟩ := by decide +kernel

theorem test_power_on : ((after (.powerOnReset [2] [3] [3]) edgeState).notice .portLink).detail = 6 ∧
    ((after (.powerOnReset [2] [3] [3]) edgeState).lane 3).hostWake = true := by decide +kernel

/-! ### Witnesses: what the statements of Obligations.lean assume can be met

One theorem for each statement that has hypotheses, with a state and operands for each clause. -/

/-- Port 0 up with node 0 PRESENT and node 1 DOUBTED, its PROBE on the send list; port 1 up and sending; port 2 down; port 3 up with a ROLLCALL to send. -/
def fieldWorld : State :=
  (((((edgeState.modNode 0 0 fun _ => { presence := .present, quietTimer := some 0, probeWaiting := false }).modNode 0 1
    fun _ => { presence := .doubted, quietTimer := some 9, probeWaiting := true }).modPort 0
    fun r => { r with link := true, sendList := [.probe 1] }).modPort 1
    fun r => { r with link := true, sending := some .rollcall }).modPort 3 fun r => { r with link := true, sendList := [.rollcall] })

/-- Entry 10 of `edgeState` in another delivery state, with another trigger, line and pending count. -/
def entryWorld (t : Trigger) (d : DeliveryState) (line : Bool) (n : Nat) : State :=
  edgeState.modEntry 10 fun _ => { configured (opened t 40 1 0) 10 with state := d, line := line, pendingCount := n }

/-- The same with an UNKNOWN baseline. -/
def unknownWorld (t : Trigger) (d : DeliveryState) (n : Nat) : State :=
  (entryWorld t d false n).modEntry 10 fun e => { e with raiseCount := none }

/-- Nothing is due; a quiet timer is; the visit timer alone is. -/
theorem witness_EmptyQueueLetsTimePass :
    State.reset.pending = [] ∧ firstDue State.reset = none ∧ firstDue fieldWorld = some (.quietTimerExpiry 0 0) ∧
    (fieldWorld.node 0 0).quietTimer = some 0 ∧
    firstDue { State.reset with sweep := { running := true, position := 0, faultsFound := 0, visitTimer := some 0 } } = some .sweepVisit := by decide +kernel

/-- Lane 0 with time settings of 0 and its timers stopped. -/
def untimed : State :=
  edgeState.modLane 0 fun l => { l with settings := { l.settings with dozeAfter := 0, deepAfter := 0 }, idleTimer := none, deepTimer := none }

/-- Lane 0 is idle after a crossing; a lane with an item is not idle; one that is lost is not ACTIVE; lane 0 stays idle through an event of lane 4; settings of 0 with the timers stopped. -/
theorem witness_IdleTimingAtTheEndOfEveryEvent :
    (after (.credit 0 0) edgeState).idle 0 = true ∧ ((after (.credit 0 0) edgeState).lane 0).settings.dozeAfter ≠ 0 ∧
    (edgeState.lane 0).link = true ∧ wellFormed (.credit 0 0) = true ∧
    ((after (.raise 0 5 0 4) edgeState).lane 0).state = .active ∧ (after (.raise 0 5 0 4) edgeState).idle 0 = false ∧
    ((after (.laneLinkLost 0) edgeState).lane 0).state ≠ .active ∧
    edgeState.idle 0 = true ∧ (after (.laneLinkGained 4) edgeState).idle 0 = true ∧ laneArrival (.laneLinkGained 4) ≠ some 0 ∧
    ((after (.credit 0 0) untimed).lane 0).settings.dozeAfter = 0 ∧ (untimed.lane 0).idleTimer = none ∧ (after (.credit 0 0) untimed).idle 0 = true ∧
    ((after (.credit 0 0) untimed).lane 0).settings.deepAfter = 0 ∧ (untimed.lane 0).deepTimer = none := by decide +kernel

theorem witness_NothingIsReceivedWithoutALink :
    (fieldWorld.port 2).link = false ∧ (fieldWorld.port 1).sending ≠ none ∧ (fieldWorld.lane 7).link = false := by decide +kernel

theorem witness_NoticeRaisesAndTheirWork :
    ((after (.portLinkGained 3) edgeState).notice .portLink).isSet = true ∧ (edgeState.notice .portLink).isSet = false := by decide +kernel

/-- Entry 0 is MASKED; entry 10 OPEN; with another code, with a group of no lane, with a full queue. -/
theorem witness_OfferOutcomes :
    (edgeState.entry 0).workMask = .masked ∧ (edgeState.entry 10).quarantined = false ∧ (edgeState.entry 10).workMask = .opened ∧
    (edgeState.entry 10).code = { image := (edgeState.entry 10).image, index := 10 } ∧
    chooseLane edgeState (edgeState.entry 10).image.group = some 0 ∧ (edgeState.lane 0).queue.length < 32 ∧
    ((after (.storageFault 10 (.image (opened .edge 41 1 0))) edgeState).entry 10).code ≠ { image := opened .edge 41 1 0, index := 10 } ∧
    (∀ k ∈ (edgeState.group 1).lanes, edgeState.live k = false) ∧
    32 ≤ ((edgeState.modLane 0 fun l => { l with queue := List.replicate 32 ⟨0, 1, 0, 0⟩ }).lane 0).queue.length := by decide +kernel

/-- The power-on list of group 0 and an empty one, under either policy. -/
theorem witness_ChoiceOfALane :
    (edgeState.group 0).policy = .prefer ∧ chooseLane edgeState 0 = some 0 ∧ chooseLane edgeState 15 = none ∧
    ((edgeState.setGroup 15 { policy := .balance, lanes := [7, 0] }).group 15).policy = .balance ∧
    chooseLane (edgeState.setGroup 15 { policy := .balance, lanes := [7, 0] }) 15 = some 0 := by decide +kernel

theorem witness_ItemTakesTheTailOfItsPriority :
    [Item.mk 1 1 3 0, ⟨2, 1, 2, 0⟩, ⟨3, 1, 2, 0⟩, ⟨4, 1, 0, 0⟩].Pairwise (fun a b => b.priority ≤ a.priority) := by decide

/-- Entry 11, whose code does not match, is held before entry 10, whose code does. -/
theorem witness_PromotionTakesTheOldestThatPasses :
    let s := (edgeState.modLane 0 fun l => { l with held := [11, 10] }).modEntry 11 fun e => { e with image := opened .edge 1 0 0 }
    s.live 0 = true ∧ s.live 7 = false ∧ (edgeState.lane 0).held = [] ∧ (s.lane 0).held = 11 :: [10] ∧ [(11 : EntryIdx)].Nodup ∧ (s.entry 11).code ≠ { image := (s.entry 11).image, index := 11 } ∧
    (s.lane 0).held = [11] ++ 10 :: [] ∧ (10 : EntryIdx) ∉ [(11 : EntryIdx)] ∧ (s.entry 10).code = { image := (s.entry 10).image, index := 10 } := by decide +kernel

/-- Lane 1 ACTIVE with an item of entry 5, entry 7 held, and entries 9 and 11 bound to it under vector 40, the line of 9 asserted; it owns the staging list and has a request. -/
def laneWorld : State :=
  (((({ State.reset with staging := [.group 5 { policy := .prefer, lanes := [0] }], owner := some 1 }.modLane 1 fun _ =>
      { activeLane 1 with
        queue := [{ entry := 5, vector := 40, priority := 1, order := 0 }], held := [7]
        slot := some { tag := 1, op := 2, args := [] }, wakeTimer := some 0 }).modEntry 5
    fun _ => { configured (opened .edge 40 1 0) 5 with state := .queued 1, pendingCount := 2 }).modEntry 7
    fun _ => { configured (opened .level 40 1 0) 7 with state := .held 1, line := true, pendingCount := 1 }).modEntry 9
    fun _ => { configured (opened .level 40 1 0) 9 with state := .outstanding 1 40, line := true }).modEntry 11
    fun _ => { configured (opened .level 40 1 0) 11 with state := .outstanding 1 40 }

theorem reset_entry (i : EntryIdx) : State.reset.entry i = Entry.powerOn i := by
  simp [State.reset, State.entry]

theorem reset_lane (k : LaneId) : State.reset.lane k = Lane.powerOn k := by
  simp [State.reset, State.lane]

/-- The delivery states of `laneWorld`. -/
theorem laneWorld_state (i : EntryIdx) : (laneWorld.entry i).state =
    if i = 11 then .outstanding 1 40 else if i = 9 then .outstanding 1 40 else if i = 7 then .held 1
    else if i = 5 then .queued 1 else .idle := by
  have h : ({ State.reset with staging := [.group 5 { policy := .prefer, lanes := [0] }], owner := some 1 } : State).entry i = Entry.powerOn i :=
    reset_entry i
  simp only [laneWorld, entry_modEntry, modLane_entry, h]
  split_ifs <;> rfl

/-- The queues and held lists of `laneWorld`. -/
theorem laneWorld_lane (k : LaneId) : (laneWorld.lane k).queue.map Item.entry = (if k = 1 then [5] else []) ∧
    (laneWorld.lane k).held = (if k = 1 then [7] else []) := by
  revert k; decide +kernel

/-- `laneWorld` has the law that the delivery statements assume. -/
theorem laneWorld_placement : PlacementSound laneWorld := by
  refine ⟨fun k i => ?_, fun k i => ?_, fun k => ?_, fun k => ?_⟩
  · rw [(laneWorld_lane k).1, laneWorld_state]
    by_cases hk : k = 1 <;> split_ifs <;> simp_all [eq_comm]
  · rw [(laneWorld_lane k).2, laneWorld_state]
    by_cases hk : k = 1 <;> split_ifs <;> simp_all [eq_comm]
  · rw [(laneWorld_lane k).1]; split_ifs <;> simp
  · rw [(laneWorld_lane k).2]; split_ifs <;> simp

/-- A lane changed in neither its queue nor its held list keeps the law, and so do a node, a port, the restart and the sweep. -/
theorem placement_modLane {s : State} {k : LaneId} {f : Lane → Lane} (hq : (f (s.lane k)).queue = (s.lane k).queue)
    (hh : (f (s.lane k)).held = (s.lane k).held) (h : PlacementSound s) : PlacementSound (s.modLane k f) := by
  have hl : ∀ j, ((s.modLane k f).lane j).queue = (s.lane j).queue ∧ ((s.modLane k f).lane j).held = (s.lane j).held := by
    intro j
    rw [lane_modLane]
    split
    · next e => subst e; exact ⟨hq, hh⟩
    · exact ⟨rfl, rfl⟩
  obtain ⟨a, b, c, d⟩ := h
  refine ⟨fun j i => ?_, fun j i => ?_, fun j => ?_, fun j => ?_⟩
  · rw [(hl j).1]; exact a j i
  · rw [(hl j).2]; exact b j i
  · rw [(hl j).1]; exact c j
  · rw [(hl j).2]; exact d j

theorem placement_modNode {s : State} {p : Port} {n : Node} {f : NodeRecord → NodeRecord} (h : PlacementSound s) :
    PlacementSound (s.modNode p n f) := h

theorem placement_modPort {s : State} {p : Port} {f : PortRecord → PortRecord} (h : PlacementSound s) : PlacementSound (s.modPort p f) := h

theorem placement_with {s : State} {r : RestartPhase} {w : Sweep} {q : List Instr} (h : PlacementSound s) :
    PlacementSound { s with restart := r, sweep := w, pending := q } := h

/-- Entry 0 is in no structure; 7 is HELD; 5 is QUEUED, on a lane that is live or has just gone DOWN. -/
theorem witness_WithdrawalTakesTheEntryOut :
    PlacementSound laneWorld ∧ PlacementSound (laneWorld.modLane 1 fun l => { l with state := .down }) ∧
    (laneWorld.entry 0).state = .idle ∧ (laneWorld.entry 7).state = .held 1 ∧ (laneWorld.entry 5).state = .queued 1 ∧ laneWorld.live 1 = true ∧
    (laneWorld.modLane 1 fun l => { l with state := .down }).live 1 = false :=
  ⟨laneWorld_placement, placement_modLane rfl rfl laneWorld_placement, by decide +kernel⟩

theorem witness_AcceptedFrameMakesItsNodePresent :
    (fieldWorld.node 0 7).presence = .unknown ∧ (fieldWorld.node 0 0).presence = .present ∧ (fieldWorld.node 0 1).presence = .doubted := by decide +kernel

/-- Recorded 3: the counts 4 and 2 are the diffs 1 and 15. -/
theorem witness_RaiseWithNewCountOnAnEdgeEntry :
    (edgeState.port 0).link = true ∧ (edgeState.port 0).sending = none ∧ entryIndex 0 5 0 = 10 ∧
    (edgeState.entry 10).raiseCount = some 3 ∧ (4 : RaiseCount) ≠ 3 ∧ (2 : RaiseCount) ≠ 3 ∧ (edgeState.entry 10).workTrigger = .edge ∧
    (edgeState.entry 10).state = .idle ∧ ((entryWorld .edge .latched true 255).entry 10).state.waits = true ∧
    ((entryWorld .edge .latched true 255).entry 10).raiseCount = some 3 := by decide +kernel

theorem witness_RaiseWithTheRecordedCountIsADuplicate :
    (edgeState.port 0).link = true ∧ (edgeState.port 0).sending = none ∧ (edgeState.entry (entryIndex 0 5 0)).raiseCount = some 3 := by decide +kernel

theorem witness_RaiseOnALevelEntryOrAnUnknownBaseline :
    ((unknownWorld .edge .idle 0).port 0).link = true ∧ ((unknownWorld .edge .idle 0).port 0).sending = none ∧
    ((unknownWorld .edge .idle 0).entry (entryIndex 0 5 0)).raiseCount = none ∧ ((unknownWorld .edge .idle 0).entry 10).state = .idle ∧
    ((unknownWorld .edge .stranded 255).entry 10).state.waits = true ∧ ((unknownWorld .level .idle 0).entry 10).raiseCount ≠ some 0 ∧
    ((entryWorld .level .stranded true 1).entry 10).line = true ∧ ((entryWorld .level .idle false 0).entry 10).line = false ∧
    ((entryWorld .level (.outstanding 0 40) false 0).entry 10).state = .outstanding 0 40 := by decide +kernel

/-- Recorded 3: the counts 3, 4 and 2 are the diffs 0, 1 and 15. -/
theorem witness_DropClosesTheLine :
    ((unknownWorld .edge .idle 0).port 0).link = true ∧ ((unknownWorld .edge .idle 0).port 0).sending = none ∧
    ((unknownWorld .edge .idle 0).entry (entryIndex 0 5 0)).raiseCount = none ∧ ((unknownWorld .edge .idle 0).entry 10).line = false ∧
    ((entryWorld .edge .idle false 0).entry 10).raiseCount = some 3 ∧ ((3 : RaiseCount) - 3).toNat = 0 ∧ ((2 : RaiseCount) - 3).toNat = 15 ∧
    ((entryWorld .level .stranded true 1).entry 10).state.waits = true ∧ ((entryWorld .level (.outstanding 0 40) true 0).entry 10).state.waits = false ∧
    ((entryWorld .level .idle false 0).entry 10).line = false ∧ ((entryWorld .edge .idle true 0).entry 10).line = true ∧
    ((entryWorld .edge .idle true 0).entry 10).state = .idle ∧ ((entryWorld .edge .latched false 250).entry 10).state.waits = true := by decide +kernel

theorem witness_PresentReportsBothLines :
    (edgeState.port 0).link = true ∧ (edgeState.port 0).sending = none ∧ (edgeState.entry 10).raiseCount = some 3 ∧ (4 : RaiseCount) ≠ 3 ∧
    ((entryWorld .edge .idle true 0).entry 10).line = true ∧ ((unknownWorld .edge .idle 0).entry 10).raiseCount = none ∧
    ((unknownWorld .edge .idle 0).entry 10).workTrigger = .edge ∧ ((unknownWorld .level .idle 0).entry 10).workTrigger = .level := by decide +kernel

/-- `laneWorld` with the entries' nodes known: node 2 of port 0 PRESENT, node 3 DOUBTED (it has the HELD entry 7), and port 0 up. -/
def presentWorld : State :=
  ((laneWorld.modNode 0 2 fun _ => { presence := .present, quietTimer := some 0, probeWaiting := false }).modNode 0 3
    fun _ => { presence := .doubted, quietTimer := some 0, probeWaiting := true }).modPort 0 fun r => { r with link := true, sendList := [.probe 3] }

theorem witness_QuietTimerDoubtsAndThenDeclaresAbsent :
    PlacementSound presentWorld ∧ (presentWorld.node 0 2).quietTimer.isSome = true ∧ (presentWorld.node 0 2).presence = .present ∧
    (presentWorld.node 0 3).quietTimer.isSome = true ∧ (presentWorld.node 0 3).presence = .doubted ∧
    (presentWorld.entry (entryIndex 0 3 1)).workTrigger = .level ∧ (presentWorld.entry (entryIndex 0 3 1)).line = true ∧
    (presentWorld.entry (entryIndex 0 3 1)).state.waits = true :=
  ⟨placement_modPort (placement_modNode (placement_modNode laneWorld_placement)), by decide +kernel⟩

theorem witness_PortLinkLostAndGained :
    PlacementSound presentWorld ∧ (presentWorld.port 0).link = true ∧ (presentWorld.node 0 2).presence = .present ∧ (presentWorld.node 0 0).presence = .unknown ∧
    ([2, 3] : List Node).Pairwise (· < ·) ∧
    (∀ n : Node, n ∈ ([2, 3] : List Node) ↔ (presentWorld.node 0 n).presence = .present ∨ (presentWorld.node 0 n).presence = .doubted) ∧
    (presentWorld.port 3).link = false ∧ (presentWorld.port 3).sendList = [] :=
  ⟨placement_modPort (placement_modNode (placement_modNode laneWorld_placement)), by decide +kernel⟩

theorem witness_PortTransmitterTakesTheOldestFrame :
    (fieldWorld.port 0).link = true ∧ (fieldWorld.port 0).sending = none ∧ (fieldWorld.port 0).sendList = .probe 1 :: [] ∧
    (fieldWorld.port 3).link = true ∧ (fieldWorld.port 3).sending = none ∧ (fieldWorld.port 3).sendList = .rollcall :: [] := by decide +kernel

/-- The limits 1, 64, 0 and 65. -/
theorem witness_HelloOnALaneThatIsNotLive :
    let s := after (.laneLinkGained 4) edgeState
    let d := s.modLane 4 fun l => { l with state := .disabled }
    (s.lane 4).link = true ∧ (s.lane 4).state = .down ∧ (d.lane 4).link = true ∧ (d.lane 4).state = .disabled ∧
    1 ≤ (1 : Byte).toNat ∧ (64 : Byte).toNat ≤ 64 ∧ (0 : Byte).toNat = 0 ∧ 64 < (65 : Byte).toNat := by decide +kernel

theorem witness_HelloOnALiveLane :
    (laneWorld.lane 1).link = true ∧ laneWorld.live 1 = true ∧ laneWorld.owner = some 1 ∧ PlacementSound laneWorld :=
  ⟨by decide +kernel, by decide +kernel, by decide +kernel, laneWorld_placement⟩

/-- `laneWorld` with lane 1 WAKING and a restart that waits for its DONE. -/
def wakingWorld : State := { laneWorld with restart := .awaitingDone 1, sweep := .stopped, pending := [] }.modLane 1 fun l => { l with state := .waking }

theorem wakingWorld_placement : PlacementSound wakingWorld :=
  placement_modLane rfl rfl (placement_with laneWorld_placement)

/-- The three commands, with and without the staging list and the restart that the clauses ask about. -/
theorem witness_LaneLossLeavesNothingOnTheLane :
    losesLane laneWorld 1 (.laneLinkLost 1) (some 1) ∧ losesLane laneWorld 1 (.goodbye 1) none ∧
    losesLane wakingWorld 1 (.wakeTimerExpiry 1) (some 3) ∧ laneWorld.live 1 = true ∧ wakingWorld.live 1 = true ∧
    PlacementSound laneWorld ∧ PlacementSound wakingWorld ∧ laneWorld.owner = some 1 ∧ State.reset.owner ≠ some 1 ∧
    wakingWorld.restart = .awaitingDone 1 ∧ laneWorld.restart ≠ .awaitingDone 1 :=
  ⟨.inl ⟨rfl, by decide +kernel, rfl⟩, .inr (.inl ⟨rfl, by decide +kernel, rfl⟩),
    .inr (.inr ⟨rfl, by decide +kernel, by decide +kernel, rfl⟩), by decide +kernel, by decide +kernel,
    laneWorld_placement, wakingWorld_placement, by decide +kernel⟩

/-- A QUEUED, a HELD and two bound entries, with and without an asserted line. -/
theorem witness_LaneLossMovesTheLanesWork :
    losesLane laneWorld 1 (.laneLinkLost 1) (some 1) ∧ laneWorld.live 1 = true ∧ PlacementSound laneWorld ∧
    (laneWorld.entry 5).state = .queued 1 ∧ (laneWorld.entry 7).state = .held 1 ∧
    (laneWorld.entry 9).state = .outstanding 1 40 ∧ (laneWorld.entry 9).line = true ∧
    (laneWorld.entry 11).state = .outstanding 1 40 ∧ (laneWorld.entry 11).line = false ∧ (laneWorld.entry 0).state = .idle :=
  ⟨.inl ⟨rfl, by decide +kernel, rfl⟩, by decide +kernel, laneWorld_placement, by decide +kernel⟩

theorem witness_RetireReleasesEveryMatch :
    (laneWorld.lane 1).link = true ∧ laneWorld.live 1 = true ∧ (laneWorld.entry 9).state = .outstanding 1 40 ∧
    ∀ i, (laneWorld.entry i).state ≠ .outstanding 1 41 := by
  refine ⟨by decide +kernel, by decide +kernel, by decide +kernel, fun i => ?_⟩
  rw [laneWorld_state]; split_ifs <;> decide

/-- Limit 3, credit 1: a count of 2 reaches the limit, a count of 3 passes it. -/
theorem witness_CreditIsTakenUpToTheLimit :
    (edgeState.lane 0).link = true ∧ edgeState.live 0 = true ∧ (edgeState.lane 0).creditLimit = some 3 ∧
    (edgeState.lane 0).availableCredit + (2 : Byte).toNat ≤ 3 ∧ 3 < (edgeState.lane 0).availableCredit + (3 : Byte).toNat := by decide +kernel

/-- Lane 0 with `n` responses waiting and its slot full or empty. -/
def controlWorld (n : Nat) (slot : Option Request) : State :=
  edgeState.modLane 0 fun l => { l with control := List.replicate n ⟨0, 0, .done, []⟩, slot := slot }

theorem witness_RequestIsAcceptedRefusedOrDropped :
    ((controlWorld 3 none).lane 0).link = true ∧ (controlWorld 3 none).live 0 = true ∧ [(1 : Byte)].length < 2 ∧
    ((controlWorld 3 none).lane 0).control.length < 4 ∧ ((controlWorld 3 none).lane 0).slot = none ∧
    ((controlWorld 2 (some ⟨0, 0, []⟩)).lane 0).control.length < 3 ∧ ((controlWorld 2 (some ⟨0, 0, []⟩)).lane 0).slot.isSome = true ∧
    4 ≤ ((controlWorld 3 (some ⟨0, 0, []⟩)).lane 0).control.length + 1 := by decide +kernel

theorem witness_ParkRepliesSettleTheHandshake :
    ((parked (.parking .doze) (some 2000)).lane 0).parkReplyTimer.isSome = true ∧ ((parked (.parking .doze) (some 2000)).lane 0).state = .parking .doze ∧
    ((parked (.parking .doze) (some 2000)).lane 0).link = true ∧ ((parked (.parking .deep) (some 0)).lane 0).state = .parking .deep ∧
    ((parked (.parking .deep) (some 0)).lane 0).settings.deepAfter ≠ 0 := by decide +kernel

theorem witness_HostFrameMakesTheLaneActive :
    ((parked (.parking .doze) none).lane 0).link = true ∧ (parked (.parking .doze) none).live 0 = true ∧
    ((parked (.parking .doze) none).lane 0).parkReplyTimer = none ∧ (∀ d, ((parked .doze none).lane 0).state ≠ .parking d) ∧
    ((after (.laneLinkGained 4) edgeState).lane 4).link = true ∧ (after (.laneLinkGained 4) edgeState).live 4 = false := by
  refine ⟨by decide +kernel, by decide +kernel, by decide +kernel, fun d => ?_, by decide +kernel⟩
  rw [show ((parked .doze none).lane 0).state = .doze by decide +kernel]
  exact LaneState.noConfusion

/-- Three bytes; a bad check; kind code 3; a lane frame of 3 bytes, of another length, with a length byte of 61, with a bad check, of a kind the bridge sends. -/
theorem witness_DamagedFramesAreCounted :
    (edgeState.port 0).link = true ∧ (edgeState.port 0).sending = none ∧ (edgeState.lane 0).link = true ∧
    [(1 : Byte), 2, 3].length ≠ 4 ∧ crc8 [1, 2, 3] ≠ crc8 [1, 2, 4] ∧ (0xC0 : Byte).toNat / 64 = 3 ∧ [(0x21 : Byte), 0, 0].length < 4 ∧
    [(0x21 : Byte), 2, 0, 0, 0].length ≠ 4 + (2 : Byte).toNat ∧ 60 < (61 : Byte).toNat ∧
    [(0 : Byte), 0] ≠ twoBytes (crc16 [0x43, oneByte 0]).toNat ∧ (0x11 : Byte) ∉ [0x10#8, 0x13#8, 0x21#8, 0x22#8, 0x30#8, 0x41#8, 0x42#8, 0x43#8] := by decide +kernel

theorem witness_LaneTimersLinkAndWakeInput :
    ((edgeState.modLane 0 fun l => { l with idleTimer := some 0 }).lane 0).idleTimer.isSome = true ∧ (edgeState.lane 0).state = .active ∧
    ((parked .doze none).lane 0).deepTimer.isSome = true ∧ ((parked .doze none).lane 0).state = .doze ∧
    ((parked (.parking .doze) none).lane 0).state = .parking .doze ∧ ((parked (.parking .doze) none).lane 0).deepTimer.isSome = true ∧
    (edgeState.lane 0).link = true ∧ (edgeState.lane 7).link = false ∧
    ((after (.laneLinkGained 4) edgeState).lane 4).link = true ∧ (after (.laneLinkGained 4) edgeState).live 4 = false := by decide +kernel

theorem witness_TransmitterGrantsByRank :
    (edgeState.lane 7).link = false ∧ (edgeState.lane 0).link = true ∧ (edgeState.lane 0).sending = none := by decide +kernel

/-- One state for each rank, and a RESTART response that completes. -/
theorem witness_GrantsAndCompletion :
    let hello := after (.hello 4 8) (after (.laneLinkGained 4) edgeState)
    let nak := after (.hello 4 65) (after (.laneLinkGained 4) edgeState)
    let notices := raiseNotice .portLink 2 edgeState
    let done := after (.mgmtResponseGrant 0) (after .restart (asking 0x15 []))
    granted hello 4 = some .helloReply ∧ (hello.lane 4).helloReply = some .ack ∧
    granted nak 4 = some .helloReply ∧ (nak.lane 4).helloReply = some (.nak 65) ∧
    granted (parked (.parking .deep) none) 0 = some .park ∧ ((parked (.parking .deep) none).lane 0).state = .parking .deep ∧
    granted (controlWorld 1 none) 0 = some .control ∧ ((controlWorld 1 none).lane 0).control = ⟨0, 0, .done, []⟩ :: [] ∧
    granted notices 0 = some .notice ∧ notices.manager = 0 ∧ (notices.notice .portLink).isSet = true ∧ (notices.notice .portLink).sent = false ∧
    (done.lane 0).sending = some (.response { tag := 1, op := 0x15, outcome := .done, data := [] }) ∧ done.restart = .awaitingDone 0 ∧
    ((after (.mgmtResponseGrant 0) { controlWorld 1 none with restart := .awaitingDone 0 }).lane 0).sending = some (.response ⟨0, 0, .done, []⟩) ∧
    (after (.mgmtResponseGrant 0) { controlWorld 1 none with restart := .awaitingDone 0 }).restart = .awaitingDone 0 ∧
    (fieldWorld.restart ≠ .awaitingDone 0) := by decide +kernel

theorem witness_SendDeliversTheHeadItem :
    let s := clearKinds noticeKinds (after (.raise 0 5 0 6) edgeState)
    granted s 0 = some .event ∧ (s.lane 0).queue.map Item.entry = 10 :: [] := by decide +kernel

theorem witness_RestartEventClearsTheDynamicState : ({ laneWorld with restart := .due } : State).restart = .due := rfl

theorem witness_PowerOnResetGivesThePowerOnValues : [(2 : Port), 0].Nodup ∧ ([] : List Port).Nodup := by decide

/-- Lane 0's request is the one served, from a lane with FULL rights. -/
theorem asking_serves (op : Byte) (args : List Byte) (write : Bool) :
    Serves (asking op args) 0 { tag := 1, op := op, args := args } op.toNat write := by
  have hl : (asking op args).lane 0 = { edgeState.lane 0 with slot := some { tag := 1, op := op, args := args } } := lane_modLane_same _ _ _
  have hr : (asking op args).restart = .no := by show edgeState.restart = .no; decide +kernel
  have hp : (asking op args).pointer = 7 := by show edgeState.pointer = 7; decide +kernel
  have hf : (edgeState.lane 0).settings.rights = .full := by decide +kernel
  refine ⟨?_, rfl, ?_⟩
  · rw [nextRequest, if_pos hr, hp]
    show List.findSome? _ (0 :: _) = _
    rw [List.findSome?_cons, hl]
    rfl
  · rw [hl]; show permitted write (edgeState.lane 0).settings.rights = true
    rw [hf]; rfl

/-- The pointer of the power-on state is 7, so that lane 0 is searched first. -/
theorem witness_EngineServesRoundRobin :
    nextRequest (asking 0x01 []) = some (0, { tag := 1, op := 0x01, args := [] }) ∧ nextRequest State.reset = none := by decide +kernel

/-- `asking` with the rights of lane 0 changed. -/
def askingAs (r : Rights) (op : Byte) (args : List Byte) : State :=
  (asking op args).modLane 0 fun l => { l with settings := { l.settings with rights := r } }

theorem witness_RequestsAreRefusedWithoutEffect :
    nextRequest (asking 0x00 []) = some (0, ⟨1, 0x00, []⟩) ∧ nextRequest (asking 0x16 []) = some (0, ⟨1, 0x16, []⟩) ∧ 21 < (0x16 : Byte).toNat ∧
    nextRequest (askingAs .none 0x01 []) = some (0, ⟨1, 0x01, []⟩) ∧ ((askingAs .none 0x01 []).lane 0).settings.rights = .none ∧
    serviceCode .identify = some (0x01, false) ∧ nextRequest (askingAs .observe 0x15 []) = some (0, ⟨1, 0x15, []⟩) ∧
    ((askingAs .observe 0x15 []).lane 0).settings.rights = .observe ∧ serviceCode .restart = some (0x15, true) ∧
    serviceCode .readEntry = some (0x02, false) ∧ takesOperands .readEntry = true ∧ nextRequest (asking 0x02 []) = some (0, ⟨1, 0x02, []⟩) ∧
    ((asking 0x02 []).lane 0).settings.rights = .full := by decide +kernel

/-- The first operand of each kind that is out of its range. -/
theorem witness_OperandsOutOfRangeAreRefused :
    Serves (asking 0x03 [16]) 0 ⟨1, 0x03, [16]⟩ 0x03 false ∧ Serves (asking 0x04 [8]) 0 ⟨1, 0x04, [8]⟩ 0x04 false ∧
    Serves (asking 0x10 [8]) 0 ⟨1, 0x10, [8]⟩ 0x10 true ∧ Serves (asking 0x06 [4]) 0 ⟨1, 0x06, [4]⟩ 0x06 false ∧
    Serves (asking 0x11 [1, 0]) 0 ⟨1, 0x11, [1, 0]⟩ 0x11 true ∧ Serves (asking 0x11 [1, 11]) 0 ⟨1, 0x11, [1, 11]⟩ 0x11 true ∧
    Serves (asking 0x11 [2, 1]) 0 ⟨1, 0x11, [2, 1]⟩ 0x11 true ∧ Serves (asking 0x02 [2, 0]) 0 ⟨1, 0x02, [2, 0]⟩ 0x02 false ∧
    Serves (asking 0x13 [2, 0]) 0 ⟨1, 0x13, [2, 0]⟩ 0x13 true ∧ Serves (asking 0x05 [4, 0]) 0 ⟨1, 0x05, [4, 0]⟩ 0x05 false ∧
    Serves (asking 0x05 [0, 64]) 0 ⟨1, 0x05, [0, 64]⟩ 0x05 false ∧ Serves (asking 0x0F [0, 0]) 0 ⟨1, 0x0F, [0, 0]⟩ 0x0F true ∧
    Serves (asking 0x12 [0, 8]) 0 ⟨1, 0x12, [0, 8]⟩ 0x12 true ∧ Serves (asking 0x12 [1, 4]) 0 ⟨1, 0x12, [1, 4]⟩ 0x12 true ∧
    Serves (asking 0x0E [0, 2, 20, 2, 1]) 0 ⟨1, 0x0E, [0, 2, 20, 2, 1]⟩ 0x0E true ∧ (2 : Byte).toNat * 10 ≤ (20 : Byte).toNat ∧
    Serves (asking 0x0A [0, 0, 0x80, 0, 0]) 0 ⟨1, 0x0A, [0, 0, 0x80, 0, 0]⟩ 0x0A true ∧ 2 ≤ (0x80 : Byte).toNat / 64 ∧
    Serves (asking 0x0B [0, 9, 0, 0, 0, 0]) 0 ⟨1, 0x0B, [0, 9, 0, 0, 0, 0]⟩ 0x0B true ∧ 8 < (9 : Byte).toNat % 16 := by
  constructorm* _ ∧ _ <;> first | exact asking_serves _ _ _ | decide

/-- The operands missing, all of them or all but the last that fit. -/
theorem witness_OperandsMissing :
    Serves (asking 0x11 []) 0 ⟨1, 0x11, []⟩ 0x11 true ∧ Serves (asking 0x02 [1]) 0 ⟨1, 0x02, [1]⟩ 0x02 false ∧
    Serves (asking 0x13 [1]) 0 ⟨1, 0x13, [1]⟩ 0x13 true ∧ Serves (asking 0x0E [1, 1, 20, 50]) 0 ⟨1, 0x0E, [1, 1, 20, 50]⟩ 0x0E true ∧
    Serves (asking 0x0B [0, 1, 0, 0, 0]) 0 ⟨1, 0x0B, [0, 1, 0, 0, 0]⟩ 0x0B true := by
  refine ⟨?_, ?_, ?_, ?_, ?_⟩
  all_goals exact asking_serves _ _ _

/-- Each read, with the highest number it can name. -/
theorem witness_ReadsReportAndChangeNothing :
    Serves (asking 0x01 []) 0 ⟨1, 0x01, []⟩ 0x01 false ∧ Serves (asking 0x02 [1, 255]) 0 ⟨1, 0x02, [1, 255]⟩ 0x02 false ∧
    (1 : Byte).toNat * 256 + (255 : Byte).toNat = (511 : EntryIdx).val ∧ Serves (asking 0x03 [oneByte 15]) 0 ⟨1, 0x03, [oneByte 15]⟩ 0x03 false ∧
    Serves (asking 0x04 [oneByte 7]) 0 ⟨1, 0x04, [oneByte 7]⟩ 0x04 false ∧
    Serves (asking 0x05 [oneByte 3, oneByte 63]) 0 ⟨1, 0x05, [oneByte 3, oneByte 63]⟩ 0x05 false ∧
    Serves (asking 0x06 [oneByte 3]) 0 ⟨1, 0x06, [oneByte 3]⟩ 0x06 false ∧ Serves (asking 0x07 []) 0 ⟨1, 0x07, []⟩ 0x07 false ∧
    Serves (asking 0x08 []) 0 ⟨1, 0x08, []⟩ 0x08 false ∧ Serves (asking 0x09 []) 0 ⟨1, 0x09, []⟩ 0x09 false := by
  refine ⟨?_, ?_, by decide, ?_, ?_, ?_, ?_, ?_, ?_, ?_⟩
  all_goals exact asking_serves _ _ _

/-- A request of lane 0 with a staging list and its owner. -/
def askingWith (op : Byte) (args : List Byte) (l : List StagedRecord) (o : Option LaneId) : State :=
  { asking op args with staging := l, owner := o }

theorem askingWith_serves (op : Byte) (args : List Byte) (l : List StagedRecord) (o : Option LaneId) (write : Bool) :
    Serves (askingWith op args l o) 0 { tag := 1, op := op, args := args } op.toNat write := asking_serves op args write

/-- A record for entry 300, and its list of 16 records for other targets. -/
def record300 : StagedRecord := .entry 300 (opened .level 31 2 5)

def sixteen : List StagedRecord := (List.finRange 16).map fun g => .group g { policy := .prefer, lanes := [0] }

/-- STAGE_ENTRY and STAGE_GROUP with a list of another lane, with one of the same target, with a full one and with one of 15; DISCARD of an empty list, of another lane's and of its own. -/
theorem witness_StagingListOperations :
    Serves (askingWith 0x0A [1, 44, 0x52, 5, 31] sixteen (some 1)) 0 ⟨1, 0x0A, [1, 44, 0x52, 5, 31]⟩ 0x0A true ∧
    Serves (askingWith 0x0B [5, 1, 0, 0, 0, 0] [] none) 0 ⟨1, 0x0B, [5, 1, 0, 0, 0, 0]⟩ 0x0B true ∧
    Serves (askingWith 0x0D [] [record300] (some 0)) 0 ⟨1, 0x0D, []⟩ 0x0D true ∧
    stageEntryOperand [1, 44, 0x52, 5, 31] = some record300 ∧
    stageGroupOperand [5, 1, 0, 0, 0, 0] = some (.group 5 { policy := .prefer, lanes := [0] }) ∧
    sameTarget record300 record300 = true ∧ (∀ x ∈ sixteen, sameTarget record300 x = false) ∧ 16 ≤ sixteen.length ∧ (sixteen.take 15).length < 16 ∧
    (askingWith 0x0D [] [record300] (some 1)).owner = some 1 ∧ (1 : LaneId) ≠ 0 ∧ (askingWith 0x0D [] [record300] (some 0)).staging ≠ [] :=
  ⟨askingWith_serves _ _ _ _ _, askingWith_serves _ _ _ _ _, askingWith_serves _ _ _ _ _, by decide +kernel⟩

/-- A record that passes before one that fails; vector 0; a group whose list is empty; a group emptied under the OPEN entry 10. -/
theorem witness_CommitIsRefusedWhole :
    Serves (askingWith 0x0C [] [record300] (some 0)) 0 ⟨1, 0x0C, []⟩ 0x0C true ∧
    (askingWith 0x0C [] [] none).staging = [] ∧ (askingWith 0x0C [] [record300] (some 1)).owner = some 1 ∧
    (∀ y ∈ [StagedRecord.group 5 { policy := .prefer, lanes := [0] }],
      recordFault (askingWith 0x0C [] (.group 5 { policy := .prefer, lanes := [0] } :: [record300]) (some 0)) y = none) ∧
    (opened .level 31 2 6).mask = .opened ∧ (opened .level 31 2 6).vector ≠ 0 ∧
    (postGroup (askingWith 0x0C [] [.entry 300 (opened .level 31 2 6)] (some 0)) 6).lanes = [] ∧ (opened .level 0 2 6).vector = 0 ∧
    ((askingWith 0x0C [] [.group 0 { policy := .prefer, lanes := [] }] (some 0)).entry 10).workMask = .opened ∧
    ((askingWith 0x0C [] [.group 0 { policy := .prefer, lanes := [] }] (some 0)).entry 10).image.group = 0 :=
  ⟨askingWith_serves _ _ _ _ _, by decide +kernel⟩

/-- `laneWorld` with a COMMIT from lane 0: the QUEUED entry 5 becomes LEVEL, the bound entry 9 EDGE, the bound entry 11 stays LEVEL and the IDLE entry 0 is opened. -/
def commitWorld : State :=
  { laneWorld with
    staging := [.entry 5 (opened .level 50 1 0), .group 5 { policy := .prefer, lanes := [1] }, .entry 9 (opened .edge 51 1 0),
      .entry 11 (opened .level 52 1 5), .entry 0 (opened .edge 53 1 0)]
    owner := some 0 }.modLane 0 fun _ => { activeLane 0 with slot := some { tag := 1, op := 0x0C, args := [] } }

theorem placement_staging {s : State} {l : List StagedRecord} {o : Option LaneId} (h : PlacementSound s) :
    PlacementSound { s with staging := l, owner := o } := h

theorem staging_sound_of (s : State) (hl : s.staging.length ≤ 16) (hp : s.staging.Pairwise (fun a b => sameTarget a b = false))
    (ho : s.owner.isSome = true ↔ s.staging ≠ []) : StagingSound s := by
  refine ⟨hl, hp.imp fun {a b} h => ?_, hp.imp fun {a b} h => ?_, ho⟩
  · rintro ⟨i, c, d, rfl, rfl⟩; simp [sameTarget] at h
  · rintro ⟨g, c, d, rfl, rfl⟩; simp [sameTarget] at h

theorem witness_CommitWritesEveryStagedRecord :
    Serves commitWorld 0 ⟨1, 0x0C, []⟩ 0x0C true ∧ commitWorld.staging ≠ [] ∧ commitWorld.owner = some 0 ∧ StagingSound commitWorld ∧
    PlacementSound commitWorld ∧ (∀ x ∈ commitWorld.staging, recordFault commitWorld x = none) ∧
    (commitWorld.entry 5).state.waits = true ∧ (commitWorld.entry 5).pendingCount ≠ 0 ∧ (commitWorld.entry 9).state = .outstanding 1 40 ∧
    (commitWorld.entry 11).state = .outstanding 1 40 ∧ (commitWorld.entry 0).state = .idle :=
  ⟨⟨by decide +kernel, rfl, by decide +kernel⟩, by decide +kernel, by decide +kernel,
    staging_sound_of _ (by decide +kernel) (by decide +kernel) (by decide +kernel),
    placement_modLane (by decide +kernel) (by decide +kernel) (placement_staging laneWorld_placement), by decide +kernel⟩

/-- `laneWorld` with a SET_LANE from lane 0. -/
def adminWorld (args : List Byte) : State :=
  laneWorld.modLane 0 fun _ => { activeLane 0 with slot := some { tag := 1, op := 0x0E, args := args } }

/-- The requesting lane; the last lane with FULL rights; a lane left enabled; a DISABLED lane enabled; a DOWN lane disabled; a live lane disabled. -/
theorem witness_SetLaneWritesTheSettings :
    Serves (adminWorld [1, 1, 20, 50, 0]) 0 ⟨1, 0x0E, [1, 1, 20, 50, 0]⟩ 0x0E true ∧ PlacementSound (adminWorld [1, 1, 20, 50, 0]) ∧
    [1, 1, 20, 50, 0] = oneByte (1 : LaneId) :: (1 : Byte) :: 20 :: 50 :: 0 :: [] ∧ (20 : Byte).toNat < (50 : Byte).toNat * 10 ∧
    (adminWorld [1, 1, 20, 50, 0]).live 1 = true ∧ ((adminWorld [1, 1, 20, 50, 0]).lane 1).settings.enabled = true ∧
    [0, 2, 0, 50, 1] = oneByte (0 : LaneId) :: (2 : Byte) :: 0 :: 50 :: 1 :: [] ∧
    keepsManager (asking 0x0E [0, 1, 20, 50, 1]) 0 ⟨.observe, 20, 50, true⟩ = false ∧ keepsManager (adminWorld []) 1 ⟨.observe, 20, 50, false⟩ = true ∧
    ((adminWorld []).lane 2).state = .down ∧ ((adminWorld []).lane 2).settings.enabled = true ∧
    (((adminWorld []).modLane 2 fun l => { l with state := .disabled, settings := { l.settings with enabled := false } }).lane 2).state = .disabled ∧
    (((adminWorld []).modLane 2 fun l => { l with state := .disabled, settings := { l.settings with enabled := false } }).lane 2).settings.enabled = false :=
  ⟨⟨by decide +kernel, rfl, by decide +kernel⟩, placement_modLane (by decide +kernel) (by decide +kernel) laneWorld_placement, by decide +kernel⟩

theorem witness_OtherSettingsAreWritten :
    Serves (asking 0x0F [oneByte 3, 255]) 0 ⟨1, 0x0F, [oneByte 3, 255]⟩ 0x0F true ∧ (255 : Byte) ≠ 0 ∧
    Serves (asking 0x10 [oneByte 7]) 0 ⟨1, 0x10, [oneByte 7]⟩ 0x10 true ∧ (7 : LaneId) ≠ (asking 0x10 [oneByte 7]).manager ∧
    Serves (asking 0x10 [oneByte 0]) 0 ⟨1, 0x10, [oneByte 0]⟩ 0x10 true ∧ (asking 0x10 [oneByte 0]).manager = 0 ∧
    Serves (asking 0x12 [0, oneByte 7]) 0 ⟨1, 0x12, [0, oneByte 7]⟩ 0x12 true ∧ Serves (asking 0x12 [1, oneByte 3]) 0 ⟨1, 0x12, [1, oneByte 3]⟩ 0x12 true ∧
    Serves (asking 0x11 [2, 10, 1]) 0 ⟨1, 0x11, [2, 10, 1]⟩ 0x11 true ∧ ([.countSaturated, .nodeArrived] : List NoticeKind).length < 256 ∧
    oneByte ([.countSaturated, .nodeArrived] : List NoticeKind).length :: ([.countSaturated, .nodeArrived] : List NoticeKind).map (fun x => oneByte x.number) = [2, 10, 1] ∧
    Serves (asking 0x14 []) 0 ⟨1, 0x14, []⟩ 0x14 true ∧ (asking 0x14 []).sweep.running = false ∧
    Serves (asking 0x15 []) 0 ⟨1, 0x15, []⟩ 0x15 true := by
  refine ⟨?_, by decide, ?_, by decide +kernel, ?_, by decide +kernel, ?_, ?_, ?_, by decide, by decide +kernel, ?_, by decide +kernel, ?_⟩
  all_goals exact asking_serves _ _ _

theorem witness_ForceRetireReleasesOneEntry :
    Serves (asking 0x13 [0, 10]) 0 ⟨1, 0x13, [0, 10]⟩ 0x13 true ∧ (0 : Byte).toNat * 256 + (10 : Byte).toNat = (10 : EntryIdx).val ∧
    ((asking 0x13 [0, 10]).entry 10).state = .idle ∧ ((entryWorld .level (.outstanding 0 40) true 0).entry 10).state = .outstanding 0 40 ∧
    ((entryWorld .level (.outstanding 0 40) false 0).entry 10).line = false ∧ ((entryWorld .level (.outstanding 0 40) true 0).entry 10).line = true :=
  ⟨asking_serves _ _ _, by decide +kernel⟩

/-- A sweep at entry `i` of `laneWorld`, whose stored code for entry 5 has changed. -/
def sweepWorld (i : Nat) : State :=
  { laneWorld with restart := .no, sweep := { running := true, position := i, faultsFound := 0, visitTimer := some 0 }, pending := [] }.modEntry 5
    fun e => { e with code := { e.code with index := 6 } }

theorem placement_modEntry {s : State} {i : EntryIdx} {f : Entry → Entry} (hf : ∀ e, (f e).state = e.state) (h : PlacementSound s) :
    PlacementSound (s.modEntry i f) := by
  have he : ∀ j, ((s.modEntry i f).entry j).state = (s.entry j).state := by
    intro j
    rw [entry_modEntry]
    split
    · next e => subst e; exact hf _
    · rfl
  obtain ⟨a, b, c, d⟩ := h
  exact ⟨fun k j => by rw [he]; exact a k j, fun k j => by rw [he]; exact b k j, c, d⟩

/-- The sweep is at entry 0, which passes; at entry 511; at entry 5, which is QUEUED and does not match. -/
theorem witness_SweepVisitsChecksAndEnds :
    PlacementSound (sweepWorld 5) ∧ (sweepWorld 0).sweep.visitTimer.isSome = true ∧ (sweepWorld 0).sweep.running = true ∧ (sweepWorld 0).sweep.position = (0 : EntryIdx).val ∧
    ((sweepWorld 0).entry 0).code = { image := ((sweepWorld 0).entry 0).image, index := 0 } ∧ (sweepWorld 511).sweep.position = (511 : EntryIdx).val ∧
    (sweepWorld 5).sweep.position = (5 : EntryIdx).val ∧ ((sweepWorld 5).entry 5).code ≠ { image := ((sweepWorld 5).entry 5).image, index := 5 } ∧
    ((sweepWorld 5).entry 5).quarantined = false ∧ ((sweepWorld 5).entry 5).state.waits = true ∧
    ((sweepWorld 511).modEntry 511 fun e => { e with code := { e.code with index := 6 } }).sweep.position = 511 ∧
    ((raiseNotice .tableFault 9 (sweepWorld 5)).notice .tableFault).isSet = true :=
  ⟨placement_modEntry (fun _ => rfl) (placement_with laneWorld_placement), by decide +kernel⟩

/-! #### The laws: a state that has them all, with an item, two bindings and a staging list, and a step from it -/

/-- `laneWorld` with nothing held, the manager's settings of power-on, and a READY that waits. -/
def lawWorld : State :=
  { (laneWorld.modLane 1 fun l => { l with held := [] }).modEntry 7 fun e => { e with state := .idle, line := false, pendingCount := 0 } with
    pending := [.ready 1] }

theorem pending_entry (s : State) (q : List Instr) (i : EntryIdx) : ({ s with pending := q } : State).entry i = s.entry i := rfl

/-- A READY that waits is taken. -/
theorem step_ready {s : State} {k : LaneId} {rest : List Instr} (h : s.pending = .ready k :: rest) : ∃ t, step s = .next t := by
  rw [step, h]
  exact ⟨_, rfl⟩

/-- The entries of `lawWorld`: 5, 7, 9 and 11, and the power-on entry elsewhere. -/
theorem lawWorld_entry (i : EntryIdx) : lawWorld.entry i =
    if i = 7 then { configured (opened .level 40 1 0) 7 with state := .idle, line := false, pendingCount := 0 }
    else if i = 11 then { configured (opened .level 40 1 0) 11 with state := .outstanding 1 40 }
    else if i = 9 then { configured (opened .level 40 1 0) 9 with state := .outstanding 1 40, line := true }
    else if i = 5 then { configured (opened .edge 40 1 0) 5 with state := .queued 1, pendingCount := 2 } else Entry.powerOn i := by
  have h : ({ State.reset with staging := [.group 5 { policy := .prefer, lanes := [0] }], owner := some 1 } : State).entry i = Entry.powerOn i :=
    reset_entry i
  have h7 : (laneWorld.modLane 1 fun l => { l with held := [] }).entry 7 = { configured (opened .level 40 1 0) 7 with state := .held 1, line := true, pendingCount := 1 } := by
    decide +kernel
  rw [lawWorld, pending_entry, entry_modEntry, h7, modLane_entry]
  simp only [laneWorld, entry_modEntry, modLane_entry, h]
  split_ifs <;> rfl

/-- The lanes of `lawWorld`: lane 1, and the power-on lane elsewhere. -/
theorem lawWorld_lane (k : LaneId) : lawWorld.lane k =
    if k = 1 then { activeLane 1 with
      queue := [{ entry := 5, vector := 40, priority := 1, order := 0 }], held := []
      slot := some { tag := 1, op := 2, args := [] }, wakeTimer := some 0 }
    else Lane.powerOn k := by
  revert k; decide +kernel

theorem witness_PlacementLawIsKept : PlacementSound lawWorld ∧ ∃ t, step lawWorld = .next t := by
  refine ⟨⟨fun k i => ?_, fun k i => ?_, fun k => ?_, fun k => ?_⟩, step_ready rfl⟩
  · rw [lawWorld_lane, lawWorld_entry]
    by_cases hk : k = 1 <;> split_ifs <;> simp_all [Lane.powerOn, Entry.powerOn, eq_comm]
  · rw [lawWorld_lane, lawWorld_entry]
    by_cases hk : k = 1 <;> split_ifs <;> simp_all [Lane.powerOn, Entry.powerOn, eq_comm]
  · rw [lawWorld_lane]; split_ifs <;> simp [Lane.powerOn]
  · rw [lawWorld_lane]; split_ifs <;> simp [Lane.powerOn]

theorem witness_StagingLawIsKept : StagingSound lawWorld ∧ ∃ t, step lawWorld = .next t :=
  ⟨staging_sound_of _ (by decide +kernel) (by decide +kernel) (by decide +kernel), step_ready rfl⟩

theorem witness_ManagerLawIsKept : EnabledSound lawWorld ∧ ManagerKept lawWorld ∧ ∃ t, step lawWorld = .next t := by
  refine ⟨fun k => ?_, ⟨0, ?_, ?_⟩, step_ready rfl⟩
  · rw [lawWorld_lane]; split_ifs <;> decide +revert
  · rw [lawWorld_lane]; decide
  · rw [lawWorld_lane]; decide

theorem witness_LaneAccountsAreKept : CreditSound lawWorld ∧ PlacesSound lawWorld ∧ ∃ t, step lawWorld = .next t := by
  have live : ∀ k, lawWorld.live k = decide (k = 1) := by decide +kernel
  refine ⟨fun k => ?_, fun k => ?_, step_ready rfl⟩
  · rw [lawWorld_lane, live]
    by_cases h : k = 1
    · rw [if_pos h]; simp [activeLane, h, Config.maxCreditLimit]
    · rw [if_neg h]; simp [Lane.powerOn, h]
  · rw [lawWorld_lane]; split_ifs <;> simp [placesTaken, activeLane, Lane.powerOn, Config.controlDepth]

theorem witness_QueueLawsAreKept : PlacementSound lawWorld ∧ DepthSound lawWorld ∧ DownEmpty lawWorld ∧ OrderSound lawWorld ∧ ∃ t, step lawWorld = .next t := by
  have live : ∀ k, lawWorld.live k = decide (k = 1) := by decide +kernel
  refine ⟨witness_PlacementLawIsKept.1, fun k => ?_, fun k hk => ?_, fun k => ?_, step_ready rfl⟩
  · rw [lawWorld_lane]; split_ifs <;> simp [Lane.powerOn, Config.queueDepth]
  · have h : k ≠ 1 := by rw [live] at hk; simpa using hk
    rw [lawWorld_lane, if_neg h]
    refine ⟨rfl, rfl, fun i v => ?_⟩
    rw [lawWorld_entry]
    split_ifs <;> simp [Entry.powerOn, Ne.symm h]
  · rw [lawWorld_lane]; split_ifs <;> simp [Lane.powerOn]

theorem lawWorld_pending : PendingSound lawWorld := fun i => by
  rw [lawWorld_entry]
  split_ifs <;> simp [Entry.powerOn, configured, opened, Config.maxPending]

theorem lawWorld_trigger : TriggerSound lawWorld := fun i => by
  rw [lawWorld_entry]
  split_ifs <;> simp [Entry.powerOn, configured, opened]

theorem witness_PendingCountLawIsKept : PlacementSound lawWorld ∧ PendingSound lawWorld ∧ ∃ t, step lawWorld = .next t :=
  have hs : ∃ t, step lawWorld = .next t := step_ready rfl
  And.intro witness_PlacementLawIsKept.1 (And.intro @lawWorld_pending hs)

theorem witness_LevelLawIsKept :
    PlacementSound lawWorld ∧ PendingSound lawWorld ∧ TriggerSound lawWorld ∧ ∃ t, step lawWorld = .next t :=
  have hs : ∃ t, step lawWorld = .next t := step_ready rfl
  And.intro witness_PlacementLawIsKept.1 (And.intro @lawWorld_pending (And.intro @lawWorld_trigger hs))

/-- The power-on state has both laws, and so it has after a RAISE. -/
theorem witness_AbsenceLawIsKept :
    BaselineSound State.reset ∧ AbsenceSound State.reset ∧ (∃ t, step { State.reset with pending := [.ready 1] } = .next t) ∧
    ((after (.raise 0 5 0 6) edgeState).entry 10).line = true ∧ ((after (.raise 0 5 0 6) edgeState).node 0 5).presence = .present := by
  refine ⟨fun i _ => ?_, fun p n l _ => ?_, step_ready rfl, by decide +kernel⟩
  · rw [reset_entry]; rfl
  · rw [reset_entry]; exact ⟨rfl, rfl⟩

theorem witness_NoticeLawIsKept : NoticesSound lawWorld ∧ ∃ t, step lawWorld = .next t := by
  refine ⟨fun k => ?_, step_ready rfl⟩
  have h : lawWorld.notice k = NoticeRecord.clear := by cases k <;> decide +kernel
  rw [h]; exact ⟨by decide, fun _ => rfl⟩

/-- A frame of each family, and an image at the highest numbers. -/
theorem witness_FramesAreReceivedAsSent :
    wellFormed (.raise 3 63 1 15) = true ∧ (fieldWire (.raise 3 63 1 15)).isSome = true ∧ fieldArrival (.raise 3 63 1 15) = some 3 ∧
    wellFormed (.parkAck 7 true) = true ∧ (laneWire (.parkAck 7 true)).isSome = true ∧ laneArrival (.parkAck 7 true) = some 7 ∧
    wellFormed (.mgmtRequest 7 (List.replicate 60 255)) = true ∧ (fieldWorld.port 1).sending = some .rollcall ∧
    ((after (.helloReplyGrant 4) ((after (.laneLinkGained 4) edgeState).modLane 4 fun l => { l with helloReply := some (.nak 65) })).lane 4).sending =
      some (.helloNak 65) := by decide +kernel

theorem witness_ImagesAreStagedAsSent : ([7, 6, 5, 4, 3, 2, 1, 0] : List LaneId).Nodup ∧ ([7, 6, 5, 4, 3, 2, 1, 0] : List LaneId).length ≤ 8 := by decide

end Sys2Proof.Tests
end

/-!
# Where the entries stand

The rules of the delivery procedures at the level of one entry and of one lane's lists: what each procedure does to the
entry it names, what it may do to the others, and that it keeps queue items, held lists and delivery states in agreement (R8).
-/

namespace Sys2Proof.Machine

-- One theorem is elaborated after the other: many at once need too many threads.
set_option Elab.async false

/-! ### Reads after the shared writes -/

section reads
variable (s : State)

@[simp] theorem Lane.workToSend_queue (l : Lane) : l.workToSend.queue = l.queue := by
  unfold Lane.workToSend Lane.wake; split <;> simp_all

@[simp] theorem Lane.workToSend_held (l : Lane) : l.workToSend.held = l.held := by
  unfold Lane.workToSend Lane.wake; split <;> simp_all

@[simp] theorem Lane.workToSend_enqueueSeq (l : Lane) : l.workToSend.enqueueSeq = l.enqueueSeq := by
  unfold Lane.workToSend Lane.wake; split <;> simp_all

@[simp] theorem workToSend_entry (k : LaneId) (i : EntryIdx) : (s.workToSend k).entry i = s.entry i := rfl

@[simp] theorem workToSend_queue (k j : LaneId) : ((s.workToSend k).lane j).queue = (s.lane j).queue := by
  rw [State.workToSend, lane_modLane]; split <;> simp_all

@[simp] theorem workToSend_held (k j : LaneId) : ((s.workToSend k).lane j).held = (s.lane j).held := by
  rw [State.workToSend, lane_modLane]; split <;> simp_all

@[simp] theorem workToSend_enqueueSeq (k j : LaneId) : ((s.workToSend k).lane j).enqueueSeq = (s.lane j).enqueueSeq := by
  rw [State.workToSend, lane_modLane]; split <;> simp_all

@[simp] theorem raiseNotice_entries (n : NoticeKind) (d : Nat) : (raiseNotice n d s).entries = s.entries := by
  unfold raiseNotice; dsimp only; split <;> rfl

@[simp] theorem raiseNotice_entry (n : NoticeKind) (d : Nat) (i : EntryIdx) : (raiseNotice n d s).entry i = s.entry i := by
  simp [State.entry]

@[simp] theorem raiseNotice_queue (n : NoticeKind) (d : Nat) (k : LaneId) :
    ((raiseNotice n d s).lane k).queue = (s.lane k).queue := by
  unfold raiseNotice; dsimp only; split <;> simp

@[simp] theorem raiseNotice_held (n : NoticeKind) (d : Nat) (k : LaneId) :
    ((raiseNotice n d s).lane k).held = (s.lane k).held := by
  unfold raiseNotice; dsimp only; split <;> simp

@[simp] theorem raiseNotice_enqueueSeq (n : NoticeKind) (d : Nat) (k : LaneId) :
    ((raiseNotice n d s).lane k).enqueueSeq = (s.lane k).enqueueSeq := by
  unfold raiseNotice; dsimp only; split <;> simp

theorem setDelivery_entry (i j : EntryIdx) (d : DeliveryState) :
    (setDelivery i d s).entry j = if j = i then { s.entry i with state := d } else s.entry j := entry_modEntry ..

theorem setPending_entry (i j : EntryIdx) (n : Nat) :
    (setPending i n s).entry j = if j = i then { s.entry i with pendingCount := n } else s.entry j := entry_modEntry ..

theorem setLine_entry (i j : EntryIdx) (b : Bool) :
    (setLine i b s).entry j = if j = i then { s.entry i with line := b } else s.entry j := entry_modEntry ..

theorem unbind_entry (i j : EntryIdx) :
    (unbind i s).entry j = if j = i then { s.entry i with state := .idle, pendingCount := 0 } else s.entry j := entry_modEntry ..

@[simp] theorem setDelivery_lane (i : EntryIdx) (d : DeliveryState) (k : LaneId) : (setDelivery i d s).lane k = s.lane k := rfl
@[simp] theorem setPending_lane (i : EntryIdx) (n : Nat) (k : LaneId) : (setPending i n s).lane k = s.lane k := rfl
@[simp] theorem setLine_lane (i : EntryIdx) (b : Bool) (k : LaneId) : (setLine i b s).lane k = s.lane k := rfl
@[simp] theorem unbind_lane (i : EntryIdx) (k : LaneId) : (unbind i s).lane k = s.lane k := rfl

theorem checkPasses_iff (i : EntryIdx) : checkPasses s i = true ↔ (s.entry i).code = checkCode (s.entry i).image i := by
  simp [checkPasses]

end reads

/-- Two changes of one entry are one change. -/
theorem modEntry_modEntry (s : State) (i : EntryIdx) (f g : Entry → Entry) :
    (s.modEntry i f).modEntry i g = s.modEntry i fun e => g (f e) := by
  simp [State.modEntry, State.entry]

/-! ### Enqueue, quarantine and offer at the entry they name -/

section procedures
variable (s : State)

theorem enqueue_entry (k : LaneId) (i j : EntryIdx) :
    (enqueue k i s).entry j = if j = i then { s.entry i with state := .queued k } else s.entry j := by
  simp [enqueue, setDelivery_entry]

/-- The queues after an enqueue: the item of the entry joins the queue of its lane (R66). -/
theorem enqueue_queue (k : LaneId) (i : EntryIdx) (j : LaneId) :
    ((enqueue k i s).lane j).queue =
      if j = k then
        insertItem
          { entry := i, vector := (s.entry i).image.vector, priority := (s.entry i).image.priority, order := (s.lane k).enqueueSeq }
          (s.lane k).queue
      else (s.lane j).queue := by
  simp only [enqueue, workToSend_queue, setDelivery_lane, lane_modLane]
  split <;> rfl

@[simp] theorem enqueue_held (k : LaneId) (i : EntryIdx) (j : LaneId) : ((enqueue k i s).lane j).held = (s.lane j).held := by
  simp only [enqueue, workToSend_held, setDelivery_lane, lane_modLane]
  split
  · next h => rw [h]
  · rfl

theorem quarantineLoose_entry (i j : EntryIdx) :
    (quarantineLoose i s).entry j =
      if j = i then { s.entry i with quarantined := true, state := .latched } else s.entry j := by
  simp [quarantineLoose, entry_modEntry]

@[simp] theorem quarantineLoose_queue (i : EntryIdx) (k : LaneId) : ((quarantineLoose i s).lane k).queue = (s.lane k).queue := by
  simp [quarantineLoose]

@[simp] theorem quarantineLoose_held (i : EntryIdx) (k : LaneId) : ((quarantineLoose i s).lane k).held = (s.lane k).held := by
  simp [quarantineLoose]

@[simp] theorem quarantineLoose_enqueueSeq (i : EntryIdx) (k : LaneId) :
    ((quarantineLoose i s).lane k).enqueueSeq = (s.lane k).enqueueSeq := by
  simp [quarantineLoose]

theorem place_entry (k : LaneId) (i j : EntryIdx) :
    (place k i s).entry j =
      if j = i then
        { s.entry i with state := if (s.lane k).queue.length < Config.queueDepth then .queued k else .held k }
      else s.entry j := by
  unfold place
  split
  · exact enqueue_entry s k i j
  · exact setDelivery_entry ..

/-- A lane that is chosen is live (R51, R53). -/
theorem leastLoaded_mem {ks : List LaneId} {k : LaneId} (h : leastLoaded s ks = some k) : k ∈ ks := by
  induction ks generalizing k with
  | nil => simp [leastLoaded] at h
  | cons j rest ih =>
    cases hr : leastLoaded s rest with
    | none => simp_all [leastLoaded]
    | some m =>
      simp only [leastLoaded, hr] at h
      split at h <;> simp only [Option.some.injEq] at h <;> subst h <;> simp [ih hr]

theorem leastLoaded_isSome {ks : List LaneId} (h : ks ≠ []) : ∃ k, leastLoaded s ks = some k := by
  cases ks with
  | nil => exact absurd rfl h
  | cons j rest =>
    simp only [leastLoaded]
    split
    · exact ⟨_, rfl⟩
    · split <;> exact ⟨_, rfl⟩

theorem chooseLane_mem {g : GroupId} {k : LaneId} (h : chooseLane s g = some k) : k ∈ candidates s g := by
  unfold chooseLane at h
  split at h
  · exact List.mem_of_head? h
  · exact leastLoaded_mem s h

theorem chooseLane_live {g : GroupId} {k : LaneId} (h : chooseLane s g = some k) : s.live k = true := by
  have := chooseLane_mem s h
  simp only [candidates, List.mem_filter] at this
  exact this.2

/-- No lane is chosen exactly when no lane of the list is eligible (R56). -/
theorem chooseLane_eq_none (g : GroupId) : chooseLane s g = none ↔ ∀ k ∈ (s.group g).lanes, s.live k = false := by
  have hc : (∀ k ∈ (s.group g).lanes, s.live k = false) ↔ candidates s g = [] := by
    simp [candidates, List.filter_eq_nil_iff]
  rw [hc]
  constructor
  · intro h
    by_contra hne
    unfold chooseLane at h
    split at h
    · exact hne (List.head?_eq_none_iff.mp h)
    · obtain ⟨k, hk⟩ := leastLoaded_isSome s hne
      rw [hk] at h
      cases h
  · intro h
    unfold chooseLane
    rw [h]
    split <;> rfl

/-- The four outcomes of an offer (R11, R57). -/
inductive OfferOutcome (i : EntryIdx) (s : State) : State → Prop
  | latches (h : (s.entry i).quarantined = true ∨ (s.entry i).workMask = .masked) :
      OfferOutcome i s (setDelivery i .latched s)
  | quarantines (hq : (s.entry i).quarantined = false) (hm : (s.entry i).workMask = .opened)
      (hc : (s.entry i).code ≠ checkCode (s.entry i).image i) : OfferOutcome i s (quarantineLoose i s)
  | strands (hq : (s.entry i).quarantined = false) (hm : (s.entry i).workMask = .opened)
      (hc : (s.entry i).code = checkCode (s.entry i).image i) (hk : chooseLane s (s.entry i).image.group = none) :
      OfferOutcome i s (raiseNotice .entryStranded i (setDelivery i .stranded s))
  | places (k : LaneId) (hq : (s.entry i).quarantined = false) (hm : (s.entry i).workMask = .opened)
      (hc : (s.entry i).code = checkCode (s.entry i).image i) (hk : chooseLane s (s.entry i).image.group = some k) :
      OfferOutcome i s (place k i s)

theorem offer_outcome (i : EntryIdx) (s : State) : OfferOutcome i s (offer i s) := by
  unfold offer
  dsimp only
  split
  · next hq => exact .latches (.inl hq)
  · next hq =>
    simp only [Bool.not_eq_true] at hq
    split
    · next hm => exact .latches (.inr hm)
    · next hm =>
      have hm : (s.entry i).workMask = .opened := by
        cases h : (s.entry i).workMask
        · exact absurd h hm
        · rfl
      split
      · next hc => exact .quarantines hq hm (by simpa [checkPasses] using hc)
      · next hc =>
        have hc : (s.entry i).code = checkCode (s.entry i).image i := by simpa [checkPasses] using hc
        split
        · next k hk => exact .places k hq hm hc hk
        · next hk => exact .strands hq hm hc hk

end procedures

/-- The delivery state that an offer gives an entry: LATCHED, STRANDED, or QUEUED or HELD on a live lane (R11). -/
def OfferedState (s : State) (d : DeliveryState) : Prop :=
  d = .latched ∨ d = .stranded ∨ ∃ k, s.live k = true ∧ (d = .queued k ∨ d = .held k)

theorem OfferedState.waits {s : State} {d : DeliveryState} (h : OfferedState s d) : d.waits = true := by
  rcases h with rfl | rfl | ⟨k, -, rfl | rfl⟩ <;> rfl

/-- An offer leaves the other entries as they were. -/
theorem offer_entry_ne (s : State) {i j : EntryIdx} (h : j ≠ i) : (offer i s).entry j = s.entry j := by
  have := offer_outcome i s
  generalize offer i s = t at this
  cases this with
  | latches => rw [setDelivery_entry, if_neg h]
  | quarantines => rw [quarantineLoose_entry, if_neg h]
  | strands => rw [raiseNotice_entry, setDelivery_entry, if_neg h]
  | places k => rw [place_entry, if_neg h]

/-- What an offer does to its entry: it takes a state in which it waits, and is quarantined only where its check fails (R11, R20). -/
theorem offer_entry (s : State) (i : EntryIdx) : ∃ d q, OfferedState s d ∧
    (offer i s).entry i = { s.entry i with state := d, quarantined := q } ∧
    ((s.entry i).quarantined = true → q = true) ∧
    ((s.entry i).code = checkCode (s.entry i).image i → q = (s.entry i).quarantined) ∧
    ((s.entry i).workMask = .masked → d = .latched) := by
  have := offer_outcome i s
  generalize offer i s = t at this
  cases this with
  | latches =>
    exact ⟨.latched, _, .inl rfl, by rw [setDelivery_entry, if_pos rfl], id, fun _ => rfl, fun _ => rfl⟩
  | quarantines hq hm hc =>
    exact ⟨.latched, true, .inl rfl, by rw [quarantineLoose_entry, if_pos rfl], fun _ => rfl, fun h => absurd h hc,
      fun _ => rfl⟩
  | strands hq hm hc hk =>
    exact ⟨.stranded, _, .inr (.inl rfl), by rw [raiseNotice_entry, setDelivery_entry, if_pos rfl], id, fun _ => rfl,
      fun h => by rw [hm] at h; cases h⟩
  | places k hq hm hc hk =>
    refine ⟨_, _, ?_, by rw [place_entry, if_pos rfl], id, fun _ => rfl, fun h => by rw [hm] at h; cases h⟩
    refine .inr (.inr ⟨k, chooseLane_live s hk, ?_⟩)
    split
    · exact .inl rfl
    · exact .inr rfl

/-! ### Placement by counting -/

/-- Queue items, held lists and delivery states agree exactly when each entry is counted once where its state places it and
nowhere else. -/
theorem placementSound_iff (s : State) : PlacementSound s ↔ ∀ k i,
    ((s.lane k).queue.map Item.entry).count i = (if (s.entry i).state = .queued k then 1 else 0) ∧
    (s.lane k).held.count i = (if (s.entry i).state = .held k then 1 else 0) := by
  have key : ∀ (l : List EntryIdx) (p : EntryIdx → Prop) [DecidablePred p],
      ((∀ i, i ∈ l ↔ p i) ∧ l.Nodup) ↔ ∀ i, l.count i = if p i then 1 else 0 := by
    intro l p _
    constructor
    · rintro ⟨hm, hn⟩ i
      rw [List.Nodup.count hn]
      simp only [hm]
    · intro h
      refine ⟨fun i => ?_, List.nodup_iff_count_le_one.mpr fun i => ?_⟩
      · rw [← List.count_pos_iff, h i]
        split <;> simp [*]
      · rw [h i]; split <;> simp
  constructor
  · rintro ⟨hq, hh, nq, nh⟩ k i
    exact ⟨(key _ _).mp ⟨hq k, nq k⟩ i, (key _ _).mp ⟨hh k, nh k⟩ i⟩
  · intro h
    exact ⟨fun k => ((key _ _).mpr fun i => (h k i).1).1, fun k => ((key _ _).mpr fun i => (h k i).2).1,
      fun k => ((key _ _).mpr fun i => (h k i).1).2, fun k => ((key _ _).mpr fun i => (h k i).2).2⟩

/-- The delivery state puts the entry in a lane structure (R8). -/
def DeliveryState.placed : DeliveryState → Bool
  | .held _ | .queued _ => true
  | .idle | .latched | .stranded | .outstanding _ _ => false

theorem not_placed_queued {d : DeliveryState} (h : d.placed = false) (k : LaneId) : d ≠ .queued k := by
  rintro rfl; cases h

theorem not_placed_held {d : DeliveryState} (h : d.placed = false) (k : LaneId) : d ≠ .held k := by
  rintro rfl; cases h

/-- The law looks at the entries' delivery states and at the lanes' queues and held lists alone. -/
theorem PlacementSound.congr {s t : State} (h : PlacementSound s) (he : ∀ i, (t.entry i).state = (s.entry i).state)
    (hq : ∀ k, (t.lane k).queue = (s.lane k).queue) (hh : ∀ k, (t.lane k).held = (s.lane k).held) : PlacementSound t := by
  rw [placementSound_iff] at h ⊢
  intro k i
  rw [he, hq, hh]
  exact h k i

/-- An entry that leaves whatever structure it stood in. -/
theorem PlacementSound.leave {s t : State} (h : PlacementSound s) (i : EntryIdx) (hi : (t.entry i).state.placed = false)
    (he : ∀ j, j ≠ i → (t.entry j).state = (s.entry j).state)
    (hq : ∀ k, ((t.lane k).queue.map Item.entry).Perm (((s.lane k).queue.map Item.entry).filter fun j => decide (j ≠ i)))
    (hh : ∀ k, ((t.lane k).held).Perm ((s.lane k).held.filter fun j => decide (j ≠ i))) : PlacementSound t := by
  rw [placementSound_iff] at h ⊢
  intro k j
  rw [(hq k).count_eq, (hh k).count_eq]
  by_cases hj : j = i
  · subst hj
    rw [if_neg (not_placed_queued hi k), if_neg (not_placed_held hi k)]
    exact ⟨List.count_eq_zero.mpr (by simp), List.count_eq_zero.mpr (by simp)⟩
  · rw [List.count_filter (by simpa using hj), List.count_filter (by simpa using hj), he j hj]
    exact h k j

/-- An entry in no structure that joins the queue of a lane. -/
theorem PlacementSound.joinQueue {s t : State} (h : PlacementSound s) (i : EntryIdx) (k : LaneId)
    (hs : (s.entry i).state.placed = false) (hi : (t.entry i).state = .queued k)
    (he : ∀ j, j ≠ i → (t.entry j).state = (s.entry j).state)
    (hq : ((t.lane k).queue.map Item.entry).Perm (i :: (s.lane k).queue.map Item.entry))
    (hn : ∀ m, m ≠ k → (t.lane m).queue = (s.lane m).queue) (hh : ∀ m, (t.lane m).held = (s.lane m).held) :
    PlacementSound t := by
  rw [placementSound_iff] at h ⊢
  intro m j
  have hc : ((t.lane m).queue.map Item.entry).count j =
      ((s.lane m).queue.map Item.entry).count j + if m = k ∧ j = i then 1 else 0 := by
    by_cases hm : m = k
    · subst hm
      rw [hq.count_eq, List.count_cons]
      simp [eq_comm (a := i) (b := j)]
    · simp [hn m hm, hm]
  rw [hc, hh, (h m j).1, (h m j).2]
  by_cases hj : j = i
  · subst hj
    simp [hi, not_placed_queued hs, not_placed_held hs, eq_comm]
  · simp [he j hj, hj]

/-- An entry in no structure that joins the held list of a lane. -/
theorem PlacementSound.joinHeld {s t : State} (h : PlacementSound s) (i : EntryIdx) (k : LaneId)
    (hs : (s.entry i).state.placed = false) (hi : (t.entry i).state = .held k)
    (he : ∀ j, j ≠ i → (t.entry j).state = (s.entry j).state)
    (hh : (t.lane k).held.Perm (i :: (s.lane k).held))
    (hn : ∀ m, m ≠ k → (t.lane m).held = (s.lane m).held) (hq : ∀ m, (t.lane m).queue = (s.lane m).queue) :
    PlacementSound t := by
  rw [placementSound_iff] at h ⊢
  intro m j
  have hc : (t.lane m).held.count j = (s.lane m).held.count j + if m = k ∧ j = i then 1 else 0 := by
    by_cases hm : m = k
    · subst hm
      rw [hh.count_eq, List.count_cons]
      simp [eq_comm (a := i) (b := j)]
    · simp [hn m hm, hm]
  rw [hc, hq, (h m j).1, (h m j).2]
  by_cases hj : j = i
  · subst hj
    simp [hi, not_placed_queued hs, not_placed_held hs, eq_comm]
  · simp [he j hj, hj]

/-- An entry stands on no list but the one its state names. -/
theorem PlacementSound.not_mem_queue {s : State} (h : PlacementSound s) {i : EntryIdx} {k : LaneId}
    (hi : (s.entry i).state ≠ .queued k) : i ∉ (s.lane k).queue.map Item.entry := fun hm => hi ((h.1 k i).mp hm)

theorem PlacementSound.not_mem_held {s : State} (h : PlacementSound s) {i : EntryIdx} {k : LaneId}
    (hi : (s.entry i).state ≠ .held k) : i ∉ (s.lane k).held := fun hm => hi ((h.2.1 k i).mp hm)

theorem filter_ne_of_not_mem {i : EntryIdx} {l : List EntryIdx} (h : i ∉ l) : l.filter (fun j => decide (j ≠ i)) = l := by
  rw [List.filter_eq_self]
  intro j hj
  simp only [ne_eq, decide_not, Bool.not_eq_eq_eq_not, Bool.not_true, decide_eq_false_iff_not]
  rintro rfl
  exact h hj

theorem insertItem_perm (item : Item) (q : List Item) : (insertItem item q).Perm (item :: q) := by
  unfold insertItem
  conv_rhs => rw [← List.takeWhile_append_dropWhile (p := fun x => decide (item.priority ≤ x.priority)) (l := q)]
  exact List.perm_middle

/-! ### The delivery procedures keep the placement law -/

theorem PlacementSound.enqueue {s : State} (h : PlacementSound s) {i : EntryIdx} (hi : (s.entry i).state.placed = false)
    (k : LaneId) : PlacementSound (enqueue k i s) := by
  refine h.joinQueue i k hi (by rw [enqueue_entry, if_pos rfl]) (fun j hj => by rw [enqueue_entry, if_neg hj]) ?_
    (fun m hm => by rw [enqueue_queue, if_neg hm]) (fun m => by simp)
  rw [enqueue_queue, if_pos rfl]
  exact (insertItem_perm _ _).map Item.entry

theorem PlacementSound.place {s : State} (h : PlacementSound s) {i : EntryIdx} (hi : (s.entry i).state.placed = false)
    (k : LaneId) : PlacementSound (place k i s) := by
  unfold Machine.place
  split
  · exact h.enqueue hi k
  · refine h.joinHeld i k hi (by rw [setDelivery_entry, if_pos rfl]) (fun j hj => by rw [setDelivery_entry, if_neg hj]; rfl)
      ?_ (fun m hm => by rw [setDelivery_lane, lane_modLane_ne s hm]) (fun m => ?_)
    · rw [setDelivery_lane, lane_modLane_same]
      exact List.perm_append_singleton _ _
    · rw [setDelivery_lane, lane_modLane]
      split
      · next e => rw [e]
      · rfl

/-- A change of one entry in no structure, to another state in no structure. -/
theorem PlacementSound.settle {s t : State} (h : PlacementSound s) (i : EntryIdx) (hi : (s.entry i).state.placed = false)
    (ht : (t.entry i).state.placed = false) (he : ∀ j, j ≠ i → (t.entry j).state = (s.entry j).state)
    (hq : ∀ k, (t.lane k).queue = (s.lane k).queue) (hh : ∀ k, (t.lane k).held = (s.lane k).held) : PlacementSound t := by
  refine h.leave i ht he (fun k => ?_) (fun k => ?_)
  · rw [hq, filter_ne_of_not_mem (h.not_mem_queue (not_placed_queued hi k))]
  · rw [hh, filter_ne_of_not_mem (h.not_mem_held (not_placed_held hi k))]

theorem PlacementSound.offer {s : State} (h : PlacementSound s) {i : EntryIdx} (hi : (s.entry i).state.placed = false) :
    PlacementSound (offer i s) := by
  have := offer_outcome i s
  generalize Machine.offer i s = t at this
  cases this with
  | latches =>
    exact h.settle i hi (by rw [setDelivery_entry, if_pos rfl]; rfl) (fun j hj => by rw [setDelivery_entry, if_neg hj])
      (fun _ => rfl) (fun _ => rfl)
  | quarantines =>
    exact h.settle i hi (by rw [quarantineLoose_entry, if_pos rfl]; rfl)
      (fun j hj => by rw [quarantineLoose_entry, if_neg hj]) (fun _ => by simp) (fun _ => by simp)
  | strands =>
    exact h.settle i hi (by rw [raiseNotice_entry, setDelivery_entry, if_pos rfl]; rfl)
      (fun j hj => by rw [raiseNotice_entry, setDelivery_entry, if_neg hj]) (fun _ => by simp) (fun _ => by simp)
  | places k => exact h.place hi k

/-! ### Promotion and withdrawal -/

/-- What promotions may do to entry `i`: a HELD entry whose check passes becomes QUEUED on its lane, and one whose check fails is
quarantined (R12, R20); any other entry is left alone. -/
def EntryPromotes (i : EntryIdx) (e f : Entry) : Prop :=
  f = e ∨ ∃ k, e.state = .held k ∧
    ((e.code = checkCode e.image i ∧ f = { e with state := .queued k }) ∨
      (e.code ≠ checkCode e.image i ∧ f = { e with quarantined := true, state := .latched }))

theorem EntryPromotes.refl (i : EntryIdx) (e : Entry) : EntryPromotes i e e := .inl rfl

theorem EntryPromotes.of_eq {i : EntryIdx} {e f : Entry} (h : f = e) : EntryPromotes i e f := .inl h

theorem EntryPromotes.eq_of_not_held {i : EntryIdx} {e f : Entry} (h : EntryPromotes i e f) (hn : ∀ k, e.state ≠ .held k) : f = e := by
  rcases h with h | ⟨k, hk, -⟩
  · exact h
  · exact absurd hk (hn k)

theorem EntryPromotes.trans {i : EntryIdx} {e f g : Entry} (h : EntryPromotes i e f) (h' : EntryPromotes i f g) :
    EntryPromotes i e g := by
  rcases h with rfl | ⟨k, hk, ⟨hc, rfl⟩ | ⟨hc, rfl⟩⟩
  · exact h'
  · rw [h'.eq_of_not_held (by simp)]
    exact .inr ⟨k, hk, .inl ⟨hc, rfl⟩⟩
  · rw [h'.eq_of_not_held (by simp)]
    exact .inr ⟨k, hk, .inr ⟨hc, rfl⟩⟩

/-- The oldest held entry taken off its list: until it is enqueued or quarantined it stands on no list. -/
def takeHeld (k : LaneId) (i : EntryIdx) (rest : List EntryIdx) (s : State) : State :=
  setDelivery i .latched (s.modLane k fun l => { l with held := rest })

theorem takeHeld_entry (s : State) (k : LaneId) (i : EntryIdx) (rest : List EntryIdx) (j : EntryIdx) :
    (takeHeld k i rest s).entry j = if j = i then { s.entry i with state := .latched } else s.entry j := setDelivery_entry ..

theorem takeHeld_lane (s : State) (k : LaneId) (i : EntryIdx) (rest : List EntryIdx) (m : LaneId) :
    (takeHeld k i rest s).lane m = if m = k then { s.lane k with held := rest } else s.lane m := by
  rw [takeHeld, setDelivery_lane, lane_modLane]

/-- An enqueue, and a quarantine, overwrite the delivery state that the entry had. -/
theorem enqueue_takeHeld (s : State) (k : LaneId) (i : EntryIdx) (rest : List EntryIdx) :
    enqueue k i (s.modLane k fun l => { l with held := rest }) = enqueue k i (takeHeld k i rest s) := by
  simp [enqueue, takeHeld, setDelivery, State.modEntry, State.entry, State.modLane, State.lane, State.workToSend]

theorem quarantineLoose_takeHeld (s : State) (k : LaneId) (i : EntryIdx) (rest : List EntryIdx) :
    quarantineLoose i (s.modLane k fun l => { l with held := rest }) = quarantineLoose i (takeHeld k i rest s) := by
  simp [quarantineLoose, takeHeld, setDelivery, modEntry_modEntry]

theorem PlacementSound.takeHeld {s : State} (h : PlacementSound s) {k : LaneId} {i : EntryIdx} {rest : List EntryIdx}
    (hh : (s.lane k).held = i :: rest) : PlacementSound (takeHeld k i rest s) := by
  have hs : (s.entry i).state = .held k := (h.2.1 k i).mp (by rw [hh]; exact List.mem_cons_self)
  have hn := h.2.2.2 k
  rw [hh, List.nodup_cons] at hn
  refine h.leave i (by rw [takeHeld_entry, if_pos rfl]; rfl) (fun j hj => by rw [takeHeld_entry, if_neg hj])
    (fun m => ?_) (fun m => ?_)
  · have hq : ((Machine.takeHeld k i rest s).lane m).queue = (s.lane m).queue := by
      rw [takeHeld_lane]; split
      · next e => rw [e]
      · rfl
    rw [hq, filter_ne_of_not_mem (h.not_mem_queue (by rw [hs]; simp))]
  · rw [takeHeld_lane]
    split
    · next e =>
      subst e
      rw [hh, List.filter_cons_of_neg (by simp), filter_ne_of_not_mem hn.1]
    · next e =>
      rw [filter_ne_of_not_mem (h.not_mem_held (by rw [hs]; simpa using Ne.symm e))]

/-- What promotion does, from any state that has the placement law (R12, R69). -/
theorem promoteFrom_sound {s : State} (h : PlacementSound s) {k : LaneId} {w : List EntryIdx} (hw : (s.lane k).held = w) :
    PlacementSound (promoteFrom k w s) ∧ ∀ j, EntryPromotes j (s.entry j) ((promoteFrom k w s).entry j) := by
  induction w generalizing s with
  | nil =>
    unfold promoteFrom
    refine ⟨h.congr (fun _ => rfl) (fun m => ?_) (fun m => ?_), fun j => .inl rfl⟩
    · rw [lane_modLane]; split
      · next e => rw [e]
      · rfl
    · rw [lane_modLane]; split
      · next e => rw [e, hw]
      · rfl
  | cons i rest ih =>
    have hs : (s.entry i).state = .held k := (h.2.1 k i).mp (by rw [hw]; exact List.mem_cons_self)
    have ht := h.takeHeld hw
    have hi : ((takeHeld k i rest s).entry i).state.placed = false := by rw [takeHeld_entry, if_pos rfl]; rfl
    unfold promoteFrom
    split
    · next hc =>
      rw [checkPasses_iff] at hc
      rw [enqueue_takeHeld]
      refine ⟨ht.enqueue hi k, fun j => ?_⟩
      rw [enqueue_entry]
      split
      · next e =>
        subst e
        rw [takeHeld_entry, if_pos rfl]
        exact .inr ⟨k, hs, .inl ⟨hc, rfl⟩⟩
      · next e => rw [takeHeld_entry, if_neg e]; exact .refl _ _
    · next hc =>
      rw [checkPasses_iff] at hc
      rw [quarantineLoose_takeHeld]
      have hq : PlacementSound (quarantineLoose i (takeHeld k i rest s)) :=
        ht.settle i hi (by rw [quarantineLoose_entry, if_pos rfl]; rfl)
          (fun j hj => by rw [quarantineLoose_entry, if_neg hj]) (fun _ => by simp) (fun _ => by simp)
      obtain ⟨hp, he⟩ := ih hq (by rw [quarantineLoose_held, takeHeld_lane, if_pos rfl])
      refine ⟨hp, fun j => EntryPromotes.trans ?_ (he j)⟩
      rw [quarantineLoose_entry]
      split
      · next e =>
        subst e
        rw [takeHeld_entry, if_pos rfl]
        exact .inr ⟨k, hs, .inr ⟨hc, rfl⟩⟩
      · next e => rw [takeHeld_entry, if_neg e]; exact .refl _ _

theorem PlacementSound.promote {s : State} (h : PlacementSound s) (k : LaneId) : PlacementSound (promote k s) := by
  unfold Machine.promote
  split
  · exact (promoteFrom_sound h rfl).1
  · exact h

theorem promote_entry {s : State} (h : PlacementSound s) (k : LaneId) (j : EntryIdx) :
    EntryPromotes j (s.entry j) ((promote k s).entry j) := by
  unfold Machine.promote
  split
  · exact (promoteFrom_sound h rfl).2 j
  · exact .refl _ _

theorem promote_of_not_live {s : State} {k : LaneId} (h : s.live k = false) : promote k s = s := by simp [promote, h]

/-- The item of an entry taken out of a queue, or the entry off a held list, before any promotion (R14). -/
def takeOut (i : EntryIdx) (s : State) : State :=
  match (s.entry i).state with
  | .queued k => setDelivery i .latched (s.modLane k fun l => { l with queue := l.queue.filter (fun x => decide (x.entry ≠ i)) })
  | .held k => setDelivery i .latched (s.modLane k fun l => { l with held := l.held.filter (fun j => decide (j ≠ i)) })
  | .idle | .latched | .stranded | .outstanding _ _ => s

theorem withdraw_of_queued {s : State} {i : EntryIdx} {k : LaneId} (h : (s.entry i).state = .queued k) :
    withdraw i s = promote k (takeOut i s) := by
  simp only [withdraw, takeOut, h]

theorem withdraw_of_held {s : State} {i : EntryIdx} {k : LaneId} (h : (s.entry i).state = .held k) :
    withdraw i s = takeOut i s := by
  simp only [withdraw, takeOut, h]

theorem withdraw_of_not_placed {s : State} {i : EntryIdx} (h : (s.entry i).state.placed = false) : withdraw i s = s := by
  unfold withdraw
  split <;> simp_all [DeliveryState.placed]

theorem takeOut_entry (s : State) (i j : EntryIdx) :
    (takeOut i s).entry j =
      if j = i ∧ (s.entry i).state.placed = true then { s.entry i with state := .latched } else s.entry j := by
  unfold takeOut
  split <;> simp_all [setDelivery_entry, DeliveryState.placed]

theorem takeOut_queue (h : PlacementSound s) (i : EntryIdx) (k : LaneId) :
    ((takeOut i s).lane k).queue.map Item.entry = ((s.lane k).queue.map Item.entry).filter fun j => decide (j ≠ i) := by
  by_cases hs : (s.entry i).state = .queued k
  · simp only [takeOut, hs, setDelivery_lane, lane_modLane_same, List.filter_map]
    rfl
  · rw [filter_ne_of_not_mem (h.not_mem_queue hs)]
    unfold takeOut
    split
    · next m hm =>
      rw [setDelivery_lane, lane_modLane_ne s (by rintro rfl; exact hs hm)]
    · rw [setDelivery_lane, lane_modLane]
      split
      · next e => rw [e]
      · rfl
    all_goals rfl

theorem takeOut_held (h : PlacementSound s) (i : EntryIdx) (k : LaneId) :
    ((takeOut i s).lane k).held = (s.lane k).held.filter fun j => decide (j ≠ i) := by
  by_cases hs : (s.entry i).state = .held k
  · simp only [takeOut, hs, setDelivery_lane, lane_modLane_same]
  · rw [filter_ne_of_not_mem (h.not_mem_held hs)]
    unfold takeOut
    split
    · rw [setDelivery_lane, lane_modLane]
      split
      · next e => rw [e]
      · rfl
    · next m hm =>
      rw [setDelivery_lane, lane_modLane_ne s (by rintro rfl; exact hs hm)]
    all_goals rfl

theorem takeOut_not_placed (s : State) (i : EntryIdx) : ((takeOut i s).entry i).state.placed = false := by
  rw [takeOut_entry]
  split
  · rfl
  · next h => simpa using h

theorem PlacementSound.takeOut {s : State} (h : PlacementSound s) (i : EntryIdx) : PlacementSound (takeOut i s) :=
  h.leave i (takeOut_not_placed s i) (fun j hj => by rw [takeOut_entry, if_neg (fun e => hj e.1)])
    (fun k => by rw [takeOut_queue h]) (fun k => by rw [takeOut_held h])

theorem withdraw_cases (s : State) (i : EntryIdx) :
    withdraw i s = takeOut i s ∨ ∃ k, (s.entry i).state = .queued k ∧ withdraw i s = promote k (takeOut i s) := by
  cases h : (s.entry i).state with
  | queued k => exact .inr ⟨k, rfl, withdraw_of_queued h⟩
  | held k => exact .inl (withdraw_of_held h)
  | idle | latched | stranded | outstanding => exact .inl (by simp only [withdraw, takeOut, h])

theorem PlacementSound.withdraw {s : State} (h : PlacementSound s) (i : EntryIdx) : PlacementSound (withdraw i s) := by
  rcases withdraw_cases s i with e | ⟨k, -, e⟩ <;> rw [e]
  · exact h.takeOut i
  · exact (h.takeOut i).promote k

/-- A withdrawal leaves its entry in no lane structure, LATCHED where it was in one (R14). -/
theorem withdraw_entry_same {s : State} (h : PlacementSound s) (i : EntryIdx) :
    (withdraw i s).entry i = if (s.entry i).state.placed = true then { s.entry i with state := .latched } else s.entry i := by
  have ht : (takeOut i s).entry i = if (s.entry i).state.placed = true then { s.entry i with state := .latched } else s.entry i := by
    simp [takeOut_entry]
  rcases withdraw_cases s i with e | ⟨k, -, e⟩ <;> rw [e]
  · exact ht
  · rw [(promote_entry (h.takeOut i) k i).eq_of_not_held, ht]
    exact not_placed_held (takeOut_not_placed s i)

theorem withdraw_not_placed {s : State} (h : PlacementSound s) (i : EntryIdx) : ((withdraw i s).entry i).state.placed = false := by
  rw [withdraw_entry_same h]
  split
  · rfl
  · next h => simpa using h

/-- To the other entries a withdrawal does what promotion does (R14, R69). -/
theorem withdraw_entry_ne {s : State} (h : PlacementSound s) {i j : EntryIdx} (hj : j ≠ i) :
    EntryPromotes j (s.entry j) ((withdraw i s).entry j) := by
  have ht : (takeOut i s).entry j = s.entry j := by rw [takeOut_entry, if_neg fun e => hj e.1]
  rcases withdraw_cases s i with e | ⟨k, -, e⟩ <;> rw [e, ← ht]
  · exact .refl _ _
  · exact promote_entry (h.takeOut i) k j

/-- A withdrawal from a lane that is not live touches its entry alone (R69). -/
theorem withdraw_entry_ne_of_not_live (s : State) {i j : EntryIdx} (hj : j ≠ i)
    (hl : ∀ k, (s.entry i).state = .queued k → s.live k = false) : (withdraw i s).entry j = s.entry j := by
  have ht : (takeOut i s).entry j = s.entry j := by rw [takeOut_entry, if_neg fun e => hj e.1]
  rcases withdraw_cases s i with e | ⟨k, hk, e⟩
  · rw [e, ht]
  · have : (takeOut i s).live k = false := by
      have := hl k hk
      simp only [takeOut, hk, State.live, setDelivery_lane, lane_modLane_same] at this ⊢
      exact this
    rw [e, promote_of_not_live this, ht]

end Sys2Proof.Machine

/-!
# Several entries in turn

Lane loss, release and re-offer treat a list of entries one after the other, each entry once. The lemmas here say what such a
sequence leaves at each entry.
-/

namespace Sys2Proof.Machine

-- One theorem is elaborated after the other: many at once need too many threads.
set_option Elab.async false

/-- A sequence of events, one for each entry of a list without repeats, of which each touches its own entry alone: an entry of the list
takes what its own event gives it, and any other entry stands. `Inv` is what holds between the events. -/
theorem foldl_entry {Inv : State → Prop} {f : EntryIdx → State → State} {s : State} (is : List EntryIdx) (hn : is.Nodup)
    (hinv : ∀ i ∈ is, ∀ u, Inv u → u.entry i = s.entry i → Inv (f i u))
    (hne : ∀ i ∈ is, ∀ u, Inv u → u.entry i = s.entry i → ∀ j, j ≠ i → (f i u).entry j = u.entry j)
    (r : State) (hr : Inv r) (he : ∀ j, r.entry j = s.entry j) :
    Inv (is.foldl (fun t i => f i t) r) ∧
    (∀ j, j ∉ is → (is.foldl (fun t i => f i t) r).entry j = s.entry j) ∧
    ∀ j ∈ is, ∃ u, Inv u ∧ u.entry j = s.entry j ∧ (is.foldl (fun t i => f i t) r).entry j = (f j u).entry j := by
  suffices H : ∀ r, Inv r → (∀ j ∈ is, r.entry j = s.entry j) →
      Inv (is.foldl (fun t i => f i t) r) ∧
      (∀ j, j ∉ is → (is.foldl (fun t i => f i t) r).entry j = r.entry j) ∧
      ∀ j ∈ is, ∃ u, Inv u ∧ u.entry j = s.entry j ∧ (is.foldl (fun t i => f i t) r).entry j = (f j u).entry j by
    obtain ⟨a, b, c⟩ := H r hr fun j _ => he j
    exact ⟨a, fun j hj => (b j hj).trans (he j), c⟩
  clear hr he r
  induction is with
  | nil => exact fun r hr _ => ⟨hr, fun _ _ => rfl, fun _ h => absurd h (by simp)⟩
  | cons i rest ih =>
    intro r hr he
    obtain ⟨hi, hn⟩ := List.nodup_cons.mp hn
    have hei := he i List.mem_cons_self
    have hnext := hne i List.mem_cons_self r hr hei
    obtain ⟨a, b, c⟩ := ih hn (fun j hj => hinv j (List.mem_cons_of_mem _ hj)) (fun j hj => hne j (List.mem_cons_of_mem _ hj))
      (f i r) (hinv i List.mem_cons_self r hr hei)
      (fun j hj => by rw [hnext j (by rintro rfl; exact hi hj)]; exact he j (List.mem_cons_of_mem _ hj))
    rw [List.foldl_cons]
    refine ⟨a, fun j hj => ?_, fun j hj => ?_⟩
    · rw [List.mem_cons, not_or] at hj
      obtain ⟨h1, h2⟩ := hj
      rw [b j h2, hnext j h1]
    · rcases List.mem_cons.mp hj with rfl | h
      · exact ⟨r, hr, hei, b _ hi⟩
      · exact c j h

/-- The placement law, and the lanes live as in `s`: what holds between the offers of a sequence. -/
def Between (s u : State) : Prop := PlacementSound u ∧ ∀ k, u.live k = s.live k

theorem Between.refl {s : State} (h : PlacementSound s) : Between s s := ⟨h, fun _ => rfl⟩

theorem Between.delivers {s u v : State} (h : Between s u) (hd : Delivers u v) (hp : PlacementSound v) : Between s v :=
  ⟨hp, fun k => (hd.live k).trans (h.2 k)⟩

theorem Between.offered {s u : State} (h : Between s u) {d : DeliveryState} (hd : OfferedState u d) : OfferedState s d := by
  rcases hd with h1 | h1 | ⟨k, hk, h1⟩
  · exact .inl h1
  · exact .inr (.inl h1)
  · exact .inr (.inr ⟨k, (h.2 k).symm.trans hk, h1⟩)

/-- `f` is entry `i` as an offer leaves it, from `e`: in a state in which it waits, LATCHED where it is MASKED, and quarantined only
where its check fails (R11, R20). -/
def EntryOffered (s : State) (i : EntryIdx) (e f : Entry) : Prop :=
  ∃ d q, OfferedState s d ∧ f = { e with state := d, quarantined := q } ∧ (e.quarantined = true → q = true) ∧
    (e.code = checkCode e.image i → q = e.quarantined) ∧ (e.workMask = .masked → d = .latched)

theorem offer_offered {s u : State} (h : Between s u) (i : EntryIdx) : EntryOffered s i (u.entry i) ((offer i u).entry i) := by
  obtain ⟨d, q, hd, he, hq⟩ := offer_entry u i
  exact ⟨d, q, h.offered hd, he, hq⟩

/-- Several offers of entries in no lane structure (R13). -/
theorem offerAll_entries {s : State} (h : PlacementSound s) {is : List EntryIdx} (hn : is.Nodup)
    (hs : ∀ i ∈ is, (s.entry i).state.placed = false) :
    PlacementSound (offerAll is s) ∧ (∀ j, j ∉ is → (offerAll is s).entry j = s.entry j) ∧
    ∀ j ∈ is, EntryOffered s j (s.entry j) ((offerAll is s).entry j) := by
  obtain ⟨a, b, c⟩ := foldl_entry (Inv := Between s) (f := offer) (s := s) is hn
    (fun i hi u hu he => hu.delivers (.offer i u) (hu.1.offer (by rw [he]; exact hs i hi)))
    (fun i _ u _ _ j hj => offer_entry_ne u hj) s (.refl h) (fun _ => rfl)
  refine ⟨a.1, b, fun j hj => ?_⟩
  obtain ⟨u, hu, he, hf⟩ := c j hj
  rw [offerAll, hf, ← he]
  exact offer_offered hu j

/-! ### The work of a lane that has been lost -/

theorem PlacementSound.work_nodup {s : State} (h : PlacementSound s) (k : LaneId) :
    ((s.lane k).queue.map Item.entry ++ (s.lane k).held).Nodup := by
  refine List.nodup_append.mpr ⟨h.2.2.1 k, h.2.2.2 k, fun i hi j hj e => ?_⟩
  subst e
  have h1 := (h.1 k i).mp hi
  rw [(h.2.1 k i).mp hj] at h1
  cases h1

theorem PlacementSound.mem_work {s : State} (h : PlacementSound s) (k : LaneId) (i : EntryIdx) :
    i ∈ (s.lane k).queue.map Item.entry ++ (s.lane k).held ↔ (s.entry i).state = .queued k ∨ (s.entry i).state = .held k := by
  rw [List.mem_append, h.1 k i, h.2.1 k i]

/-- One entry of a lost lane moved: withdrawn and offered. -/
theorem moved_entry_ne {s u : State} (hu : Between s u) {k : LaneId} (hl : s.live k = false) {i : EntryIdx}
    (hi : (u.entry i).state = .queued k ∨ (u.entry i).state = .held k) {j : EntryIdx} (hj : j ≠ i) :
    (offer i (withdraw i u)).entry j = u.entry j := by
  rw [offer_entry_ne _ hj]
  refine withdraw_entry_ne_of_not_live u hj fun m hm => ?_
  rw [hu.2]
  rcases hi with h | h <;> rw [hm] at h <;> cases h
  exact hl

/-- The second part of a lane loss, on a lane that is not live (R124): each entry that waited there is offered, and no other changes. -/
theorem lossOfWork_entries {s : State} (h : PlacementSound s) {k : LaneId} (hl : s.live k = false) :
    PlacementSound (lossOfWork k s) ∧
    ∀ j, ((s.entry j).state = .queued k ∨ (s.entry j).state = .held k →
        EntryOffered s j (s.entry j) ((lossOfWork k s).entry j)) ∧
      ((s.entry j).state ≠ .queued k → (s.entry j).state ≠ .held k → (lossOfWork k s).entry j = s.entry j) := by
  have hm := h.mem_work k
  obtain ⟨a, b, c⟩ := foldl_entry (Inv := Between s) (f := fun i t => offer i (withdraw i t)) (s := s) _ (h.work_nodup k)
    (fun i hi u hu he => hu.delivers (.trans (.withdraw i u) (.offer i _)) ((hu.1.withdraw i).offer (withdraw_not_placed hu.1 i)))
    (fun i hi u hu he j hj => moved_entry_ne hu hl (by rw [he]; exact (hm i).mp hi) hj) s (.refl h) (fun _ => rfl)
  refine ⟨a.1, fun j => ⟨fun hj => ?_, fun h1 h2 => b j fun hj => ?_⟩⟩
  · obtain ⟨u, hu, he, hf⟩ := c j ((hm j).mpr hj)
    have hw : (withdraw j u).entry j = { s.entry j with state := .latched } := by
      rw [withdraw_entry_same hu.1, he, if_pos (by rcases hj with e | e <;> rw [e] <;> rfl)]
    obtain ⟨d, q, hd, ho, hq⟩ := offer_offered (hu.delivers (.withdraw j u) (hu.1.withdraw j)) j
    rw [hw] at ho hq
    exact ⟨d, q, hd, hf.trans ho, hq⟩
  · rcases (hm j).mp hj with e | e
    · exact h1 e
    · exact h2 e

/-! ### The release of several bindings -/

/-- The bindings of several entries removed: each stands as IDLE (R89, R90). -/
theorem unbindAll_entry (is : List EntryIdx) (s : State) (j : EntryIdx) :
    (is.foldl (fun t i => unbind i t) s).entry j =
      if j ∈ is then { s.entry j with state := .idle, pendingCount := 0 } else s.entry j := by
  induction is generalizing s with
  | nil => rfl
  | cons i rest ih =>
    rw [List.foldl_cons, ih, unbind_entry]
    by_cases hj : j = i
    · subst hj; simp
    · simp [hj]

@[simp] theorem unbindAll_lane (is : List EntryIdx) (s : State) (k : LaneId) :
    (is.foldl (fun t i => unbind i t) s).lane k = s.lane k := by
  induction is generalizing s with
  | nil => rfl
  | cons i rest ih => rw [List.foldl_cons, ih]; rfl

theorem PlacementSound.unbindAll {s : State} (h : PlacementSound s) {is : List EntryIdx}
    (hs : ∀ i ∈ is, (s.entry i).state.placed = false) : PlacementSound (is.foldl (fun t i => unbind i t) s) := by
  rw [placementSound_iff] at h ⊢
  intro k i
  rw [unbindAll_lane, (h k i).1, (h k i).2, unbindAll_entry]
  by_cases hi : i ∈ is
  · simp [hi, not_placed_queued (hs i hi), not_placed_held (hs i hi)]
  · simp [hi]

/-- The release outcome of one entry (R89). -/
def EntryReleased (s : State) (i : EntryIdx) (e f : Entry) : Prop :=
  (e.line = false → f = { e with state := .idle, pendingCount := 0 }) ∧
  (e.line = true → EntryOffered s i { e with pendingCount := 1 } f)

theorem settleRelease_entry_ne (s : State) {i j : EntryIdx} (h : j ≠ i) : (settleRelease i s).entry j = s.entry j := by
  unfold settleRelease
  split
  · rw [offer_entry_ne _ h, setPending_entry, if_neg h]
  · rw [setDelivery_entry, if_neg h, setPending_entry, if_neg h]

theorem PlacementSound.setPending {s : State} (h : PlacementSound s) (i : EntryIdx) (n : Nat) : PlacementSound (setPending i n s) :=
  h.congr (fun j => by rw [setPending_entry]; split <;> simp_all) (fun _ => rfl) (fun _ => rfl)

theorem PlacementSound.setLine {s : State} (h : PlacementSound s) (i : EntryIdx) (b : Bool) : PlacementSound (setLine i b s) :=
  h.congr (fun j => by rw [setLine_entry]; split <;> simp_all) (fun _ => rfl) (fun _ => rfl)

/-- An entry in no structure takes another state in no structure. -/
theorem PlacementSound.setDelivery {s : State} (h : PlacementSound s) {i : EntryIdx} (hi : (s.entry i).state.placed = false)
    {d : DeliveryState} (hd : d.placed = false) : PlacementSound (setDelivery i d s) :=
  h.settle i hi (by rw [setDelivery_entry, if_pos rfl]; exact hd) (fun j hj => by rw [setDelivery_entry, if_neg hj])
    (fun _ => rfl) (fun _ => rfl)

theorem setPending_not_placed {s : State} {i : EntryIdx} (hi : (s.entry i).state.placed = false) (n : Nat) :
    ((setPending i n s).entry i).state.placed = false := by
  rw [setPending_entry, if_pos rfl]; exact hi

theorem PlacementSound.settleRelease {s : State} (h : PlacementSound s) {i : EntryIdx} (hi : (s.entry i).state.placed = false) :
    PlacementSound (settleRelease i s) := by
  unfold Machine.settleRelease
  split
  · exact (h.setPending i 1).offer (setPending_not_placed hi 1)
  · exact (h.setPending i 0).setDelivery (setPending_not_placed hi 0) rfl

theorem Between.setPending {s u : State} (h : Between s u) (i : EntryIdx) (n : Nat) : Between s (setPending i n u) :=
  ⟨h.1.setPending i n, h.2⟩

/-- The release outcome (R89): IDLE with nothing pending, or one condition pending and offered. -/
theorem settleRelease_released {s u : State} (h : Between s u) (i : EntryIdx) :
    EntryReleased s i (u.entry i) ((settleRelease i u).entry i) := by
  unfold settleRelease
  refine ⟨fun hl => ?_, fun hl => ?_⟩
  · rw [if_neg (by simp [hl]), setDelivery_entry, if_pos rfl, setPending_entry, if_pos rfl]
  · rw [if_pos hl]
    have := offer_offered (h.setPending i 1) i
    rwa [setPending_entry, if_pos rfl] at this

theorem settleRelease_live (i : EntryIdx) (s : State) (k : LaneId) : (settleRelease i s).live k = s.live k :=
  ((Takes.settleRelease i s).2.2.2.1 k).live

/-- The release of several bindings (R90): each entry of the list is released, and no other changes. -/
theorem releaseAll_entries {s : State} (h : PlacementSound s) {is : List EntryIdx} (hn : is.Nodup)
    (hs : ∀ i ∈ is, (s.entry i).state.placed = false) :
    PlacementSound (releaseAll is s) ∧ (∀ j, j ∉ is → (releaseAll is s).entry j = s.entry j) ∧
    ∀ j ∈ is, EntryReleased s j (s.entry j) ((releaseAll is s).entry j) := by
  let r := is.foldl (fun t i => unbind i t) s
  have hre : ∀ j, r.entry j = if j ∈ is then { s.entry j with state := .idle, pendingCount := 0 } else s.entry j :=
    unbindAll_entry is s
  have hrl : ∀ k, r.lane k = s.lane k := unbindAll_lane is s
  have hb : Between s r := ⟨h.unbindAll hs, fun k => by simp only [State.live, hrl]⟩
  obtain ⟨a, b, c⟩ := foldl_entry (Inv := Between s) (f := settleRelease) (s := r) is hn
    (fun i hi u hu he => ⟨hu.1.settleRelease (by rw [he, hre, if_pos hi]; rfl), fun k => (settleRelease_live i u k).trans (hu.2 k)⟩)
    (fun i _ u _ _ j hj => settleRelease_entry_ne u hj) r hb (fun _ => rfl)
  refine ⟨a.1, fun j hj => (b j hj).trans (by rw [hre, if_neg hj]), fun j hj => ?_⟩
  obtain ⟨u, hu, he, hf⟩ := c j hj
  have hrel := settleRelease_released hu j
  rw [he, hre, if_pos hj] at hrel
  change EntryReleased s j (s.entry j) ((is.foldl (fun t i => settleRelease i t) r).entry j)
  rw [hf]
  obtain ⟨h0, h1⟩ := hrel
  refine ⟨h0, fun hl => ?_⟩
  obtain ⟨d, q, hd, ho, hq⟩ := h1 hl
  exact ⟨d, q, hd, ho, hq⟩

end Sys2Proof.Machine

/-!
# Line effects

The line effects of a frame (R16 to R19) case by case, and what each does to its entry and to the others.
-/

namespace Sys2Proof.Machine

-- One theorem is elaborated after the other: many at once need too many threads.
set_option Elab.async false

/-! ### The line effects, one equation per case -/

section cases
variable {s : State} {i : EntryIdx}

theorem edgeRaise_idle (h : (s.entry i).state = .idle) (n : Nat) :
    edgeRaise i n s = offer i (setPending i n (setLine i true s)) := by
  simp only [edgeRaise, h]

theorem edgeRaise_waits (h : (s.entry i).state.waits = true) (n : Nat) : edgeRaise i n s = coalesce i n (setLine i true s) := by
  unfold edgeRaise
  cases e : (s.entry i).state with
  | latched | stranded | held | queued => rfl
  | idle | outstanding => rw [e] at h; cases h

theorem edgeRaise_outstanding {k : LaneId} {v : Byte} (h : (s.entry i).state = .outstanding k v) (n : Nat) :
    edgeRaise i n s = setLine i true s := by
  simp only [edgeRaise, h]

theorem levelAssert_asserted (h : (s.entry i).line = true) : levelAssert i s = s := by
  simp only [levelAssert, h, if_true]

theorem levelAssert_idle (hl : (s.entry i).line = false) (h : (s.entry i).state = .idle) :
    levelAssert i s = offer i (setPending i 1 (setLine i true s)) := by
  simp only [levelAssert, hl, h, Bool.false_eq_true, if_false]

theorem levelAssert_not_idle (hl : (s.entry i).line = false) (h : (s.entry i).state ≠ .idle) :
    levelAssert i s = setLine i true s := by
  unfold levelAssert
  rw [if_neg (by simp [hl])]
  cases e : (s.entry i).state with
  | latched | stranded | held | queued | outstanding => rfl
  | idle => exact absurd e h

theorem deassert_low (h : (s.entry i).line = false) : deassert i s = s := by
  simp [deassert, h]

/-- A LEVEL condition that waits is withdrawn (R19). -/
theorem deassert_level_waits (hl : (s.entry i).line = true) (ht : (s.entry i).workTrigger = .level)
    (hw : (s.entry i).state.waits = true) :
    deassert i s = setDelivery i .idle (setPending i 0 (withdraw i (setLine i false s))) := by
  unfold deassert
  dsimp only
  rw [if_neg (by simp [hl]), ht]
  cases e : (s.entry i).state with
  | latched | stranded | held | queued => rfl
  | idle | outstanding => rw [e] at hw; cases hw

/-- Of any other asserted line the level alone is recorded (R19). -/
theorem deassert_level_alone (hl : (s.entry i).line = true)
    (h : (s.entry i).workTrigger = .edge ∨ (s.entry i).state.waits = false) : deassert i s = setLine i false s := by
  unfold deassert
  dsimp only
  rw [if_neg (by simp [hl])]
  rcases h with ht | hw
  · rw [ht]
  · cases ht : (s.entry i).workTrigger with
    | edge => rfl
    | level =>
      cases e : (s.entry i).state with
      | idle | outstanding => rfl
      | latched | stranded | held | queued => rw [e] at hw; cases hw

theorem raiseEffect_edge (h : (s.entry i).workTrigger = .edge) (n : Nat) : raiseEffect i n s = edgeRaise i n s := by
  simp only [raiseEffect, h]

theorem raiseEffect_level (h : (s.entry i).workTrigger = .level) (n : Nat) : raiseEffect i n s = levelAssert i s := by
  simp only [raiseEffect, h]

end cases

/-- The counting of further raises: the pending count saturates at 255, with a notice where it does (R16, R17). -/
theorem coalesce_eq (i : EntryIdx) (n : Nat) (s : State) :
    coalesce i n s =
      if 255 < (s.entry i).pendingCount + n then
        raiseNotice .countSaturated i (setPending i (min 255 ((s.entry i).pendingCount + n)) s)
      else setPending i (min 255 ((s.entry i).pendingCount + n)) s := by
  by_cases h : 255 < (s.entry i).pendingCount + n
  · rw [coalesce, if_pos h, Nat.min_eq_left (by omega)]
    exact if_pos h
  · rw [coalesce, if_neg h, Nat.min_eq_right (by omega)]
    exact if_neg h

theorem coalesce_entry (i : EntryIdx) (n : Nat) (s : State) (j : EntryIdx) :
    (coalesce i n s).entry j =
      if j = i then { s.entry i with pendingCount := min 255 ((s.entry i).pendingCount + n) } else s.entry j := by
  rw [coalesce_eq]
  split <;> simp only [raiseNotice_entry, setPending_entry]

theorem PlacementSound.raiseNotice {s : State} (h : PlacementSound s) (n : NoticeKind) (d : Nat) : PlacementSound (raiseNotice n d s) :=
  h.congr (fun _ => by simp) (fun _ => by simp) (fun _ => by simp)

theorem PlacementSound.coalesce {s : State} (h : PlacementSound s) (i : EntryIdx) (n : Nat) : PlacementSound (coalesce i n s) := by
  rw [coalesce_eq]
  split
  · exact (h.setPending i _).raiseNotice _ _
  · exact h.setPending i _

/-- A delivery state is IDLE, waits or is OUTSTANDING (R8). -/
theorem DeliveryState.idle_or_waits_or_outstanding (d : DeliveryState) :
    d = .idle ∨ d.waits = true ∨ ∃ k v, d = .outstanding k v := by
  cases d with
  | idle => exact .inl rfl
  | outstanding k v => exact .inr (.inr ⟨k, v, rfl⟩)
  | latched | stranded | held | queued => exact .inr (.inl rfl)

/-! ### What an event may do to one entry -/

/-- A condition that waits goes to another place in which it waits, quarantined on the way or not; anything else stands. -/
def EntryMoves (e f : Entry) : Prop :=
  f = e ∨ e.state.waits = true ∧ f.state.waits = true ∧ (e.quarantined = true → f.quarantined = true) ∧
    f = { e with state := f.state, quarantined := f.quarantined }

theorem EntryPromotes.moves {i : EntryIdx} {e f : Entry} (h : EntryPromotes i e f) : EntryMoves e f := by
  rcases h with h | ⟨k, hk, ⟨-, rfl⟩ | ⟨-, rfl⟩⟩
  · exact .inl h
  · exact .inr ⟨by rw [hk]; rfl, rfl, id, rfl⟩
  · exact .inr ⟨by rw [hk]; rfl, rfl, fun _ => rfl, rfl⟩

theorem EntryOffered.moves {s : State} {i : EntryIdx} {e f : Entry} (h : EntryOffered s i e f) (he : e.state.waits = true) : EntryMoves e f := by
  obtain ⟨d, q, hd, rfl, hq, -⟩ := h
  exact .inr ⟨he, hd.waits, hq, rfl⟩

theorem EntryOffered.waits {s : State} {i : EntryIdx} {e f : Entry} (h : EntryOffered s i e f) : f.state.waits = true := by
  obtain ⟨d, q, hd, rfl, -⟩ := h
  exact hd.waits

/-- All that an event of the bridge may do to the delivery state, the pending count, the line and the working values of an entry
(R7, R16 to R20, R72, R89, R175 to R178). -/
inductive EntryEvent (e f : Entry) : Prop
  /-- a condition moves from lane to lane -/
  | moves (h : EntryMoves e f)
  /-- values are recorded beside a delivery state and a pending count that stand -/
  | records (hs : f.state = e.state) (hn : f.pendingCount = e.pendingCount) (ht : f.workTrigger = e.workTrigger)
      (hm : f.workMask = e.workMask) (hq : e.quarantined = true → f.quarantined = true)
      (hl : f.line = e.line ∨ e.workTrigger = .edge ∨ (f.line = true ∧ e.state ≠ .idle) ∨ (f.line = false ∧ e.state.waits = false))
  /-- a condition begins to wait -/
  | starts (hf : f.state.waits = true) (h1 : 1 ≤ f.pendingCount) (h2 : f.pendingCount ≤ 255)
      (ht : f.workTrigger = .edge ∨ f.pendingCount = 1 ∧ f.line = true)
  /-- raises are added to an EDGE condition that waits -/
  | adds (he : e.state.waits = true) (n : Nat) (hs : f.state = e.state) (hn : f.pendingCount = min 255 (e.pendingCount + n))
      (ht : e.workTrigger = .edge) (ht' : f.workTrigger = .edge)
  /-- a condition is over -/
  | ends (hs : f.state = .idle) (hn : f.pendingCount = 0) (hl : f.workTrigger = .level → f.line = false)
  /-- a LEVEL condition is sent -/
  | sends (k : LaneId) (v : Byte) (hs : f.state = .outstanding k v) (hn : f.pendingCount = 0) (ht : f.workTrigger = .level)
  /-- an entry with no condition is written -/
  | writesIdle (he : e.state = .idle) (hs : f.state = .idle) (hn : f.pendingCount = e.pendingCount)
      (hl : f.workTrigger = .level → f.workMask = .opened → f.line = false)
  /-- a bound entry is written, and stays LEVEL -/
  | writesBound (k : LaneId) (v : Byte) (he : e.state = .outstanding k v) (hs : f.state = .outstanding k v)
      (hn : f.pendingCount = e.pendingCount) (ht : f.workTrigger = .level)
  /-- an entry that waits is written, and waits on -/
  | writesWaiting (he : e.state.waits = true) (hs : f.state.waits = true) (hn : f.pendingCount = e.pendingCount)
      (hl : f.line = e.line) (ht : f.workTrigger = .level → e.workTrigger = .level)
  /-- an entry that waits with nothing pending, which no run has, is written -/
  | writesVoid (he : e.state.waits = true) (hn : e.pendingCount = 0)

theorem EntryEvent.refl (e : Entry) : EntryEvent e e := .moves (.inl rfl)

theorem EntryEvent.of_eq {e f : Entry} (h : f = e) : EntryEvent e f := .moves (.inl h)

theorem EntryPromotes.event {i : EntryIdx} {e f : Entry} (h : EntryPromotes i e f) : EntryEvent e f := .moves h.moves

/-- R9 at one entry. -/
def PendingFits (e : Entry) : Prop :=
  (e.state.waits = true → 1 ≤ e.pendingCount ∧ e.pendingCount ≤ 255 ∧ (e.workTrigger = .level → e.pendingCount = 1)) ∧
  (e.state.waits = false → e.pendingCount = 0)

/-- R10, R18 and R86 at one entry. -/
def TriggerFits (e : Entry) : Prop :=
  (e.state.waits = true → e.workTrigger = .level → e.line = true) ∧
  (∀ k v, e.state = .outstanding k v → e.workTrigger = .level) ∧
  (e.state = .idle → e.workTrigger = .level → e.workMask = .opened → e.quarantined = false → e.line = false)

theorem pendingSound_iff (s : State) : PendingSound s ↔ ∀ i, PendingFits (s.entry i) := by
  refine forall_congr' fun i => ?_
  unfold PendingFits
  cases (s.entry i).state <;> simp [DeliveryState.waits, Config.maxPending]

theorem triggerSound_iff (s : State) : TriggerSound s ↔ ∀ i, TriggerFits (s.entry i) := by
  refine forall_congr' fun i => ?_
  unfold TriggerFits
  cases (s.entry i).state <;> simp [DeliveryState.waits]

/-- Every event keeps R9 at the entry. -/
theorem EntryEvent.pendingFits {e f : Entry} (h : EntryEvent e f) (he : PendingFits e) : PendingFits f := by
  obtain ⟨hw, hz⟩ := he
  cases h with
  | moves h =>
    rcases h with rfl | ⟨he, hf, -, h⟩
    · exact ⟨hw, hz⟩
    · rw [h]
      exact ⟨fun _ => hw he, fun h => by simp [hf] at h⟩
  | records hs hn ht hm hq hl =>
    unfold PendingFits
    rw [hs, hn, ht]
    exact ⟨hw, hz⟩
  | starts hf h1 h2 ht =>
    refine ⟨fun _ => ⟨h1, h2, fun hl => ?_⟩, fun h => by simp [hf] at h⟩
    rcases ht with ht | ⟨ht, -⟩
    · rw [hl] at ht; cases ht
    · exact ht
  | adds he n hs hn ht ht' =>
    have := hw he
    refine ⟨fun _ => ⟨by omega, by omega, fun hl => by rw [hl] at ht'; cases ht'⟩, fun h => by rw [hs, he] at h; cases h⟩
  | ends hs hn hl => rw [PendingFits, hs, hn]; exact ⟨nofun, fun _ => rfl⟩
  | sends k v hs hn ht => rw [PendingFits, hs, hn]; exact ⟨nofun, fun _ => rfl⟩
  | writesIdle he hs hn hl => rw [PendingFits, hs, hn]; exact ⟨nofun, fun _ => hz (by rw [he]; rfl)⟩
  | writesBound k v he hs hn ht => rw [PendingFits, hs, hn]; exact ⟨nofun, fun _ => hz (by rw [he]; rfl)⟩
  | writesWaiting he hs hn hl ht =>
    rw [PendingFits, hn]
    obtain ⟨h1, h2, h3⟩ := hw he
    exact ⟨fun _ => ⟨h1, h2, fun h => h3 (ht h)⟩, fun h => by simp [hs] at h⟩
  | writesVoid he hn => have := hw he; omega

/-- Every event keeps R10, R18 and R86 at the entry. -/
theorem EntryEvent.triggerFits {e f : Entry} (h : EntryEvent e f) (hp : PendingFits e) (he : TriggerFits e) : TriggerFits f := by
  obtain ⟨hw, ho, hi⟩ := he
  have idle_waits : ∀ d : DeliveryState, d.waits = true → d ≠ .idle := by rintro _ h rfl; cases h
  have bound_waits : ∀ (d : DeliveryState) k v, d.waits = true → d ≠ .outstanding k v := by rintro _ _ _ h rfl; cases h
  cases h with
  | moves h =>
    rcases h with rfl | ⟨he, hf, -, h⟩
    · exact ⟨hw, ho, hi⟩
    · refine ⟨fun _ => ?_, fun k v h => absurd h (bound_waits _ k v hf), fun h => absurd h (idle_waits _ hf)⟩
      rw [h]
      exact hw he
  | records hs hn ht hm hq hl =>
    unfold TriggerFits
    rw [hs, ht, hm]
    refine ⟨fun h1 h2 => ?_, ho, fun h1 h2 h3 h4 => ?_⟩
    · rcases hl with hl | hl | ⟨hl, -⟩ | ⟨-, hl⟩
      · rw [hl]; exact hw h1 h2
      · rw [h2] at hl; cases hl
      · exact hl
      · rw [h1] at hl; cases hl
    · rcases hl with hl | hl | ⟨-, hl⟩ | ⟨hl, -⟩
      · rw [hl]
        refine hi h1 h2 h3 ?_
        by_contra hc
        rw [Bool.not_eq_false] at hc
        rw [hq hc] at h4
        cases h4
      · rw [h2] at hl; cases hl
      · exact absurd h1 hl
      · exact hl
  | starts hf h1 h2 ht =>
    refine ⟨fun _ hl => ?_, fun k v h => absurd h (bound_waits _ k v hf), fun h => absurd h (idle_waits _ hf)⟩
    rcases ht with ht | ⟨-, ht⟩
    · rw [hl] at ht; cases ht
    · exact ht
  | adds he n hs hn ht ht' =>
    refine ⟨fun _ hl => ?_, fun k v h => ?_, fun h => ?_⟩
    · rw [hl] at ht'; cases ht'
    · exact absurd (hs ▸ h) (bound_waits _ k v he)
    · exact absurd (hs ▸ h) (idle_waits _ he)
  | ends hs hn hl => rw [TriggerFits, hs]; exact ⟨nofun, nofun, fun _ h _ _ => hl h⟩
  | sends k v hs hn ht => rw [TriggerFits, hs]; exact ⟨nofun, fun _ _ _ => ht, nofun⟩
  | writesIdle he hs hn hl => rw [TriggerFits, hs]; exact ⟨nofun, nofun, fun _ h1 h2 _ => hl h1 h2⟩
  | writesBound k v he hs hn ht => rw [TriggerFits, hs]; exact ⟨nofun, fun _ _ _ => ht, nofun⟩
  | writesWaiting he hs hn hl ht =>
    refine ⟨fun _ h => ?_, fun k v h => absurd h (bound_waits _ k v hs), fun h => absurd h (idle_waits _ hs)⟩
    rw [hl]
    exact hw he (ht h)
  | writesVoid he hn => have := hp.1 he; omega

/-! ### The line effects at their entry -/

theorem edgeRaise_sound {s : State} (h : PlacementSound s) {i : EntryIdx} (ht : (s.entry i).workTrigger = .edge) {n : Nat}
    (h1 : 1 ≤ n) (h2 : n ≤ 255) :
    PlacementSound (edgeRaise i n s) ∧ ∀ j, EntryEvent (s.entry j) ((edgeRaise i n s).entry j) := by
  rcases (s.entry i).state.idle_or_waits_or_outstanding with hs | hs | ⟨k, v, hs⟩
  · have he : (setPending i n (setLine i true s)).entry i = { s.entry i with line := true, pendingCount := n } := by
      rw [setPending_entry, if_pos rfl, setLine_entry, if_pos rfl]
    rw [edgeRaise_idle hs]
    refine ⟨((h.setLine i true).setPending i n).offer (by rw [he, hs]; rfl), fun j => ?_⟩
    by_cases hj : j = i
    · subst hj
      obtain ⟨d, q, hd, ho, -⟩ := offer_entry (setPending j n (setLine j true s)) j
      rw [ho, he]
      exact .starts hd.waits h1 h2 (.inl ht)
    · rw [offer_entry_ne _ hj, setPending_entry, if_neg hj, setLine_entry, if_neg hj]
      exact .refl _
  · rw [edgeRaise_waits hs]
    refine ⟨(h.setLine i true).coalesce i n, fun j => ?_⟩
    by_cases hj : j = i
    · subst hj
      rw [coalesce_entry, if_pos rfl, setLine_entry, if_pos rfl]
      exact .adds hs n rfl rfl ht ht
    · rw [coalesce_entry, if_neg hj, setLine_entry, if_neg hj]
      exact .refl _
  · rw [edgeRaise_outstanding hs]
    refine ⟨h.setLine i true, fun j => ?_⟩
    rw [setLine_entry]
    split
    · next e => subst e; exact .records rfl rfl rfl rfl id (.inr (.inl ht))
    · exact .refl _

theorem levelAssert_sound {s : State} (h : PlacementSound s) (i : EntryIdx) :
    PlacementSound (levelAssert i s) ∧ ∀ j, EntryEvent (s.entry j) ((levelAssert i s).entry j) := by
  cases hl : (s.entry i).line with
  | true => rw [levelAssert_asserted hl]; exact ⟨h, fun _ => .refl _⟩
  | false =>
    by_cases hs : (s.entry i).state = .idle
    · have he : (setPending i 1 (setLine i true s)).entry i = { s.entry i with line := true, pendingCount := 1 } := by
        rw [setPending_entry, if_pos rfl, setLine_entry, if_pos rfl]
      rw [levelAssert_idle hl hs]
      refine ⟨((h.setLine i true).setPending i 1).offer (by rw [he, hs]; rfl), fun j => ?_⟩
      by_cases hj : j = i
      · subst hj
        obtain ⟨d, q, hd, ho, -⟩ := offer_entry (setPending j 1 (setLine j true s)) j
        rw [ho, he]
        exact .starts hd.waits (by simp) (by simp) (.inr ⟨rfl, rfl⟩)
      · rw [offer_entry_ne _ hj, setPending_entry, if_neg hj, setLine_entry, if_neg hj]
        exact .refl _
    · rw [levelAssert_not_idle hl hs]
      refine ⟨h.setLine i true, fun j => ?_⟩
      rw [setLine_entry]
      split
      · next e => subst e; exact .records rfl rfl rfl rfl id (.inr (.inr (.inl ⟨rfl, hs⟩)))
      · exact .refl _

/-- A condition taken out and ended: withdrawn, nothing pending, IDLE (R19, R177). -/
theorem withdraw_then_idle {s : State} (h : PlacementSound s) (i : EntryIdx) :
    PlacementSound (setDelivery i .idle (setPending i 0 (withdraw i s))) ∧
    (setDelivery i .idle (setPending i 0 (withdraw i s))).entry i = { s.entry i with state := .idle, pendingCount := 0 } ∧
    ∀ j, j ≠ i → EntryPromotes j (s.entry j) ((setDelivery i .idle (setPending i 0 (withdraw i s))).entry j) := by
  refine ⟨((h.withdraw i).setPending i 0).setDelivery (setPending_not_placed (withdraw_not_placed h i) 0) rfl, ?_, fun j hj => ?_⟩
  · rw [setDelivery_entry, if_pos rfl, setPending_entry, if_pos rfl, withdraw_entry_same h]
    split <;> rfl
  · rw [setDelivery_entry, if_neg hj, setPending_entry, if_neg hj]
    exact withdraw_entry_ne h hj

theorem deassert_sound {s : State} (h : PlacementSound s) (i : EntryIdx) :
    PlacementSound (deassert i s) ∧ ∀ j, EntryEvent (s.entry j) ((deassert i s).entry j) := by
  cases hl : (s.entry i).line with
  | false => rw [deassert_low hl]; exact ⟨h, fun _ => .refl _⟩
  | true =>
    by_cases hc : (s.entry i).workTrigger = .level ∧ (s.entry i).state.waits = true
    · rw [deassert_level_waits hl hc.1 hc.2]
      obtain ⟨hp, hi, hne⟩ := withdraw_then_idle (h.setLine i false) i
      refine ⟨hp, fun j => ?_⟩
      by_cases hj : j = i
      · subst hj
        rw [hi, setLine_entry, if_pos rfl]
        exact .ends rfl rfl fun _ => rfl
      · have := hne j hj
        rw [setLine_entry, if_neg hj] at this
        exact this.event
    · have hc' : (s.entry i).workTrigger = .edge ∨ (s.entry i).state.waits = false := by
        cases ht : (s.entry i).workTrigger with
        | edge => exact .inl rfl
        | level => exact .inr (by simpa [ht] using hc)
      rw [deassert_level_alone hl hc']
      refine ⟨h.setLine i false, fun j => ?_⟩
      rw [setLine_entry]
      split
      · next e =>
        subst e
        refine .records rfl rfl rfl rfl id ?_
        rcases hc' with ht | hw
        · exact .inr (.inl ht)
        · exact .inr (.inr (.inr ⟨rfl, hw⟩))
      · exact .refl _

end Sys2Proof.Machine

/-!
# Writing, quarantining and sending an entry

What a commit does to the entry it writes (R175 to R178), a sweep to the entry it quarantines (R20), and a send to the entry at the
head of a queue (R71, R72).
-/

namespace Sys2Proof.Machine

-- One theorem is elaborated after the other: many at once need too many threads.
set_option Elab.async false

/-! ### A written entry -/

/-- An entry as a commit writes it (R175). -/
def Entry.written (i : EntryIdx) (img : Image) (e : Entry) : Entry :=
  { e with image := img, code := checkCode img i, workMask := img.mask, workTrigger := img.trigger, quarantined := false }

theorem writeEntry_entry (i : EntryIdx) (img : Image) (s : State) (j : EntryIdx) :
    (writeEntry i img s).entry j = if j = i then (s.entry i).written i img else s.entry j := entry_modEntry ..

@[simp] theorem writeEntry_lane (i : EntryIdx) (img : Image) (s : State) (k : LaneId) : (writeEntry i img s).lane k = s.lane k := rfl

theorem PlacementSound.writeEntry {s : State} (h : PlacementSound s) (i : EntryIdx) (img : Image) : PlacementSound (writeEntry i img s) :=
  h.congr (fun j => by rw [writeEntry_entry]; split <;> simp_all [Entry.written]) (fun _ => rfl) (fun _ => rfl)

section applyEntry
variable {s : State} {i : EntryIdx} (img : Image)

theorem applyEntry_idle (h : (s.entry i).state = .idle) :
    applyEntry i img s =
      if img.trigger = .level ∧ img.mask = .opened ∧ (s.entry i).line = true then offer i (setPending i 1 (writeEntry i img s))
      else writeEntry i img s := by
  simp only [applyEntry, h]

/-- A written entry that waited is taken out of its structure, where it is in one, and settled (R176, R177). -/
theorem applyEntry_waits (h : (s.entry i).state.waits = true) :
    applyEntry i img s =
      settlePending i (convertCount (s.entry i).workTrigger img.trigger (s.entry i).line (s.entry i).pendingCount)
        (withdraw i (writeEntry i img s)) := by
  have hw : ((writeEntry i img s).entry i).state = (s.entry i).state := by rw [writeEntry_entry, if_pos rfl]; rfl
  cases e : (s.entry i).state with
  | latched | stranded => simp only [withdraw_of_not_placed (show ((writeEntry i img s).entry i).state.placed = false by rw [hw, e]; rfl),
      applyEntry, e]
  | held | queued => simp only [applyEntry, e]
  | idle | outstanding => rw [e] at h; cases h

theorem applyEntry_bound_level {k : LaneId} {v : Byte} (h : (s.entry i).state = .outstanding k v) (ht : img.trigger = .level) :
    applyEntry i img s = writeEntry i img s := by
  simp only [applyEntry, h, ht]

theorem applyEntry_bound_edge {k : LaneId} {v : Byte} (h : (s.entry i).state = .outstanding k v) (ht : img.trigger = .edge) :
    applyEntry i img s = settleRelease i (unbind i (writeEntry i img s)) := by
  simp only [applyEntry, h, ht]

end applyEntry

/-- What the write of an entry record makes of the entry, by the delivery state it had (R175 to R178). -/
def EntryWritten (s : State) (i : EntryIdx) (img : Image) (e f : Entry) : Prop :=
  (e.state = .idle →
    (img.trigger = .level ∧ img.mask = .opened ∧ e.line = true → EntryOffered s i { e.written i img with pendingCount := 1 } f) ∧
    (¬ (img.trigger = .level ∧ img.mask = .opened ∧ e.line = true) → f = e.written i img)) ∧
  (e.state.waits = true →
    (convertCount e.workTrigger img.trigger e.line e.pendingCount = 0 →
      f = { e.written i img with state := .idle, pendingCount := 0 }) ∧
    (convertCount e.workTrigger img.trigger e.line e.pendingCount ≠ 0 →
      EntryOffered s i
        { e.written i img with pendingCount := convertCount e.workTrigger img.trigger e.line e.pendingCount } f)) ∧
  ∀ k v, e.state = .outstanding k v →
    (img.trigger = .level → f = e.written i img) ∧ (img.trigger = .edge → EntryReleased s i (e.written i img) f)

theorem EntryWritten.ofWaits {s : State} {i : EntryIdx} {img : Image} {e f : Entry} (hs : e.state.waits = true)
    (h0 : convertCount e.workTrigger img.trigger e.line e.pendingCount = 0 →
      f = { e.written i img with state := .idle, pendingCount := 0 })
    (h1 : convertCount e.workTrigger img.trigger e.line e.pendingCount ≠ 0 →
      EntryOffered s i
        { e.written i img with pendingCount := convertCount e.workTrigger img.trigger e.line e.pendingCount } f) :
    EntryWritten s i img e f :=
  ⟨fun h => absurd (h ▸ hs) nofun, fun _ => ⟨h0, h1⟩, fun _ _ h => absurd (h ▸ hs) nofun⟩

/-- An offer looks at nothing of its entry's delivery state. -/
theorem EntryOffered.congr_state {s : State} {i : EntryIdx} {e e' f : Entry} (h : EntryOffered s i e f)
    (he : { e with state := .idle } = { e' with state := .idle }) : EntryOffered s i e' f := by
  obtain ⟨d, q, hd, rfl, hq⟩ := h
  cases e; cases e'
  simp only [Entry.mk.injEq] at he
  obtain ⟨rfl, rfl, rfl, rfl, -, rfl, rfl, rfl, rfl⟩ := he
  exact ⟨d, q, hd, rfl, hq⟩

theorem EntryReleased.congr_state {s : State} {i : EntryIdx} {e e' f : Entry} (h : EntryReleased s i e f)
    (he : { e with state := .idle, pendingCount := 0 } = { e' with state := .idle, pendingCount := 0 }) : EntryReleased s i e' f := by
  cases e; cases e'
  simp only [Entry.mk.injEq] at he
  obtain ⟨rfl, rfl, rfl, rfl, -, rfl, rfl, -, rfl⟩ := he
  exact ⟨h.1, fun hl => (h.2 hl).congr_state rfl⟩

theorem settlePending_entry_ne (s : State) (n : Nat) {i j : EntryIdx} (h : j ≠ i) : (settlePending i n s).entry j = s.entry j := by
  unfold settlePending
  split
  · rw [setDelivery_entry, if_neg h, setPending_entry, if_neg h]
  · rw [offer_entry_ne _ h, setPending_entry, if_neg h]

theorem PlacementSound.settlePending {s : State} (h : PlacementSound s) {i : EntryIdx} (hi : (s.entry i).state.placed = false) (n : Nat) :
    PlacementSound (settlePending i n s) := by
  unfold Machine.settlePending
  split
  · exact (h.setPending i 0).setDelivery (setPending_not_placed hi 0) rfl
  · exact (h.setPending i n).offer (setPending_not_placed hi n)

theorem settlePending_entry {s u : State} (h : Between s u) (i : EntryIdx) (n : Nat) :
    (n = 0 → (settlePending i n u).entry i = { u.entry i with state := .idle, pendingCount := 0 }) ∧
    (n ≠ 0 → EntryOffered s i { u.entry i with pendingCount := n } ((settlePending i n u).entry i)) := by
  unfold settlePending
  refine ⟨fun hn => ?_, fun hn => ?_⟩
  · rw [if_pos hn, setDelivery_entry, if_pos rfl, setPending_entry, if_pos rfl]
  · rw [if_neg hn]
    have := offer_offered (h.setPending i n) i
    rwa [setPending_entry, if_pos rfl] at this

theorem PlacementSound.unbind {s : State} (h : PlacementSound s) {i : EntryIdx} (hi : (s.entry i).state.placed = false) :
    PlacementSound (unbind i s) :=
  h.unbindAll (is := [i]) (by simpa using hi)

/-- An entry record applied (R175 to R178): the entry is written and settled, and to the others it does what promotion does. -/
theorem applyEntry_entries {s u : State} (h : Between s u) (i : EntryIdx) (img : Image) :
    Between s (applyEntry i img u) ∧ EntryWritten s i img (u.entry i) ((applyEntry i img u).entry i) ∧
    ∀ j, j ≠ i → EntryPromotes j (u.entry j) ((applyEntry i img u).entry j) := by
  have hwp : PlacementSound (writeEntry i img u) := h.1.writeEntry i img
  have hwi : (writeEntry i img u).entry i = (u.entry i).written i img := by rw [writeEntry_entry, if_pos rfl]
  have hwn : ∀ j, j ≠ i → (writeEntry i img u).entry j = u.entry j := fun j hj => by rw [writeEntry_entry, if_neg hj]
  have hwb : Between s (writeEntry i img u) := ⟨hwp, h.2⟩
  rcases (u.entry i).state.idle_or_waits_or_outstanding with hs | hs | ⟨k, v, hs⟩
  · rw [applyEntry_idle img hs]
    unfold EntryWritten
    rw [hs]
    split
    · next hc =>
      have hp : ((setPending i 1 (writeEntry i img u)).entry i) = { (u.entry i).written i img with pendingCount := 1 } := by
        rw [setPending_entry, if_pos rfl, hwi]
      have ho := offer_offered (hwb.setPending i 1) i
      rw [hp] at ho
      refine ⟨(hwb.setPending i 1).delivers (.offer i _) ((hwp.setPending i 1).offer (by rw [hp]; exact hs ▸ rfl)),
        ⟨fun _ => ⟨fun _ => ho, fun hn => absurd hc hn⟩, nofun, nofun⟩, fun j hj => .of_eq ?_⟩
      rw [offer_entry_ne _ hj, setPending_entry, if_neg hj, hwn j hj]
    · next hc =>
      exact ⟨hwb, ⟨fun _ => ⟨fun hp => absurd hp hc, fun _ => hwi⟩, nofun, nofun⟩, fun j hj => .of_eq (hwn j hj)⟩
  · rw [applyEntry_waits img hs]
    have hout := withdraw_not_placed hwp i
    have hb : Between s (withdraw i (writeEntry i img u)) := hwb.delivers (.withdraw i _) (hwp.withdraw i)
    have hwe : { (withdraw i (writeEntry i img u)).entry i with state := .idle } = { (u.entry i).written i img with state := .idle } := by
      rw [withdraw_entry_same hwp, hwi]
      split <;> rfl
    obtain ⟨h0, h1⟩ := settlePending_entry hb i
      (convertCount (u.entry i).workTrigger img.trigger (u.entry i).line (u.entry i).pendingCount)
    refine ⟨⟨hb.1.settlePending hout _, fun k => ?_⟩, .ofWaits hs (fun hn => ?_) (fun hn => ?_), fun j hj => ?_⟩
    · refine Eq.trans ?_ (hb.2 k)
      unfold settlePending
      split
      · rfl
      · exact (Delivers.offer i _).live k
    · rw [h0 hn]
      exact congrArg (fun e : Entry => { e with pendingCount := 0 }) hwe
    · exact (h1 hn).congr_state (congrArg (fun e : Entry =>
        { e with pendingCount := convertCount (u.entry i).workTrigger img.trigger (u.entry i).line (u.entry i).pendingCount }) hwe)
    · rw [settlePending_entry_ne _ _ hj, ← hwn j hj]
      exact withdraw_entry_ne hwp hj
  · cases ht : img.trigger with
    | level =>
      rw [applyEntry_bound_level img hs ht]
      unfold EntryWritten
      rw [hs]
      exact ⟨hwb, ⟨nofun, nofun, fun _ _ _ => ⟨fun _ => hwi, fun e => by rw [ht] at e; cases e⟩⟩, fun j hj => .of_eq (hwn j hj)⟩
    | edge =>
      rw [applyEntry_bound_edge img hs ht]
      have hp : (((writeEntry i img u)).entry i).state.placed = false := by rw [hwi]; exact hs ▸ rfl
      have hub : Between s (unbind i (writeEntry i img u)) := ⟨hwp.unbind hp, h.2⟩
      have hue : (unbind i (writeEntry i img u)).entry i = { (u.entry i).written i img with state := .idle, pendingCount := 0 } := by
        rw [unbind_entry, if_pos rfl, hwi]
      refine ⟨⟨hub.1.settleRelease (by rw [hue]; rfl), fun k => (settleRelease_live i _ k).trans (hub.2 k)⟩, ?_, fun j hj => .of_eq ?_⟩
      · unfold EntryWritten
        rw [hs]
        refine ⟨nofun, nofun, fun _ _ _ => ⟨fun e => (by rw [ht] at e; cases e), fun _ => ?_⟩⟩
        have := settleRelease_released hub i
        rw [hue] at this
        exact this.congr_state rfl
      · rw [settleRelease_entry_ne _ hj, unbind_entry, if_neg hj, hwn j hj]

theorem EntryReleased.event {s : State} {i : EntryIdx} {e f : Entry} (h : EntryReleased s i e f) (e' : Entry) : EntryEvent e' f := by
  cases hl : e.line with
  | false =>
    rw [h.1 hl]
    exact .ends rfl rfl fun _ => hl
  | true =>
    obtain ⟨d, q, hd, rfl, -⟩ := h.2 hl
    exact .starts hd.waits (Nat.le_refl 1) (by simp) (.inr ⟨rfl, hl⟩)

theorem EntryWritten.event {s : State} {i : EntryIdx} {img : Image} {e f : Entry} (h : EntryWritten s i img e f) : EntryEvent e f := by
  obtain ⟨hi, hw, ho⟩ := h
  rcases e.state.idle_or_waits_or_outstanding with hs | hs | ⟨k, v, hs⟩
  · obtain ⟨h1, h2⟩ := hi hs
    by_cases hc : img.trigger = .level ∧ img.mask = .opened ∧ e.line = true
    · obtain ⟨d, q, hd, rfl, -⟩ := h1 hc
      exact .starts hd.waits (Nat.le_refl 1) (by simp) (.inr ⟨rfl, hc.2.2⟩)
    · rw [h2 hc]
      refine .writesIdle hs hs rfl fun ht hm => ?_
      by_contra hl
      exact hc ⟨ht, hm, by simpa [Entry.written] using hl⟩
  · obtain ⟨h1, h2⟩ := hw hs
    by_cases hv : e.pendingCount = 0
    · exact .writesVoid hs hv
    cases ht : e.workTrigger with
    | level =>
      have hc : convertCount e.workTrigger img.trigger e.line e.pendingCount = e.pendingCount := by
        rw [ht]; cases img.trigger <;> rfl
      rw [hc] at h2
      obtain ⟨d, q, hd, rfl, -⟩ := h2 hv
      exact .writesWaiting hs hd.waits rfl rfl fun _ => ht
    | edge =>
      cases ht' : img.trigger with
      | edge =>
        rw [ht, ht'] at h2
        obtain ⟨d, q, hd, rfl, -⟩ := h2 hv
        exact .writesWaiting hs hd.waits rfl rfl fun e => absurd (ht'.symm.trans e) (by simp)
      | level =>
        rw [ht, ht'] at h1 h2
        cases hl : e.line with
        | false =>
          rw [h1 (by rw [hl]; rfl)]
          exact .ends rfl rfl fun _ => hl
        | true =>
          rw [hl] at h2
          obtain ⟨d, q, hd, rfl, -⟩ := h2 (by simp [convertCount])
          exact .starts hd.waits (Nat.le_refl 1) (by simp [convertCount]) (.inr ⟨rfl, hl⟩)
  · obtain ⟨h1, h2⟩ := ho k v hs
    cases ht : img.trigger with
    | level => rw [h1 ht]; exact .writesBound k v hs hs rfl ht
    | edge => exact (h2 ht).event e

/-! ### An entry quarantined by the sweep -/

/-- What the quarantine of a swept entry does (R20): the flag is set, a condition that waits is LATCHED, and to the others it does what promotion does. -/
theorem quarantineFound_entries {s : State} (h : PlacementSound s) (i : EntryIdx) :
    PlacementSound (quarantineFound i s) ∧
    (quarantineFound i s).entry i =
      { s.entry i with
        quarantined := true
        state := if (s.entry i).state.waits = true then .latched else (s.entry i).state } ∧
    ∀ j, j ≠ i → EntryPromotes j (s.entry j) ((quarantineFound i s).entry j) := by
  let flagged := s.modEntry i fun e => { e with quarantined := true }
  have hfi : flagged.entry i = { s.entry i with quarantined := true } := entry_modEntry_same ..
  have hfn : ∀ j, j ≠ i → flagged.entry j = s.entry j := fun j hj => entry_modEntry_ne s hj _
  have hf : PlacementSound flagged := h.congr
    (fun j => by by_cases e : j = i
                 · rw [e, hfi]
                 · rw [hfn j e]) (fun _ => rfl) (fun _ => rfl)
  have out : PlacementSound (setDelivery i .latched (withdraw i flagged)) ∧
      ((s.entry i).state.placed = true → (setDelivery i .latched (withdraw i flagged)).entry i =
        { s.entry i with quarantined := true, state := .latched }) ∧
      ∀ j, j ≠ i → EntryPromotes j (s.entry j) ((setDelivery i .latched (withdraw i flagged)).entry j) := by
    refine ⟨(hf.withdraw i).setDelivery (withdraw_not_placed hf i) rfl, fun hp => ?_, fun j hj => ?_⟩
    · rw [setDelivery_entry, if_pos rfl, withdraw_entry_same hf, hfi, if_pos hp]
    · rw [setDelivery_entry, if_neg hj, ← hfn j hj]
      exact withdraw_entry_ne hf hj
  have stay : ∀ j, j ≠ i → EntryPromotes j (s.entry j) (flagged.entry j) := fun j hj => .of_eq (hfn j hj)
  have hq : quarantineFound i s = raiseNotice .tableFault i
      (match (s.entry i).state with
        | .queued _ | .held _ => setDelivery i .latched (withdraw i flagged)
        | .stranded => setDelivery i .latched flagged
        | .latched | .idle | .outstanding _ _ => flagged) := rfl
  rw [hq]
  simp only [raiseNotice_entry]
  cases hs : (s.entry i).state with
  | queued k | held k => exact ⟨out.1.raiseNotice _ _, out.2.1 (by rw [hs]; rfl), out.2.2⟩
  | stranded =>
    refine ⟨(hf.setDelivery (by rw [hfi]; exact hs ▸ rfl) rfl).raiseNotice _ _, ?_, fun j hj => ?_⟩
    · rw [setDelivery_entry, if_pos rfl, hfi]; rfl
    · rw [setDelivery_entry, if_neg hj]; exact stay j hj
  | latched | idle | outstanding =>
    exact ⟨hf.raiseNotice _ _, by rw [hfi, ← hs]; simp [hs, DeliveryState.waits], stay⟩

/-! ### The head item of a queue, sent -/

/-- The head item leaves its queue and its entry takes the state it has after the send (R72), before promotion. -/
def sentItem (k : LaneId) (item : Item) (rest : List Item) (s : State) : State :=
  countSent (setDelivery item.entry (sentState k item (s.entry item.entry).workTrigger)
    (setPending item.entry 0 (s.modLane k fun l => { l with availableCredit := l.availableCredit - 1, queue := rest }))) k

theorem sendHead_eq (k : LaneId) (item : Item) (rest : List Item) (s : State) :
    sendHead k item rest s = startSending k (eventFrame s item) (promote k (sentItem k item rest s)) := rfl

theorem sentItem_entry (k : LaneId) (item : Item) (rest : List Item) (s : State) (j : EntryIdx) :
    (sentItem k item rest s).entry j =
      if j = item.entry then
        { s.entry j with pendingCount := 0, state := sentState k item (s.entry j).workTrigger }
      else s.entry j := by
  simp only [sentItem, countSent, State.count, modLane_entry, setDelivery_entry, setPending_entry, if_true]
  split
  · next e => rw [e]
  · rfl

theorem sentItem_queue (k : LaneId) (item : Item) (rest : List Item) (s : State) (m : LaneId) :
    ((sentItem k item rest s).lane m).queue = if m = k then rest else (s.lane m).queue := by
  simp only [sentItem, countSent, State.count, lane_modLane, setDelivery_lane, setPending_lane]
  split <;> simp_all

theorem sentItem_held (k : LaneId) (item : Item) (rest : List Item) (s : State) (m : LaneId) :
    ((sentItem k item rest s).lane m).held = (s.lane m).held := by
  simp only [sentItem, countSent, State.count, lane_modLane, setDelivery_lane, setPending_lane]
  split <;> simp_all

theorem sentState_not_placed (k : LaneId) (item : Item) (t : Trigger) : (sentState k item t).placed = false := by
  cases t <;> rfl

theorem PlacementSound.startSending {s : State} (h : PlacementSound s) (k : LaneId) (f : LaneFrame) : PlacementSound (startSending k f s) :=
  h.congr (fun _ => rfl)
    (fun m => by rw [Machine.startSending, lane_modLane]; split <;> simp_all)
    (fun m => by rw [Machine.startSending, lane_modLane]; split <;> simp_all)

theorem PlacementSound.sentItem {s : State} (h : PlacementSound s) {k : LaneId} {item : Item} {rest : List Item}
    (hq : (s.lane k).queue = item :: rest) : PlacementSound (sentItem k item rest s) := by
  have hs : (s.entry item.entry).state = .queued k := (h.1 k item.entry).mp (by rw [hq]; simp)
  have hn := h.2.2.1 k
  rw [hq, List.map_cons, List.nodup_cons] at hn
  refine h.leave item.entry (by rw [sentItem_entry, if_pos rfl]; exact sentState_not_placed _ _ _)
    (fun j hj => by rw [sentItem_entry, if_neg hj]) (fun m => ?_) (fun m => ?_)
  · rw [sentItem_queue]
    split
    · next e =>
      subst e
      rw [hq, List.map_cons, List.filter_cons_of_neg (by simp), filter_ne_of_not_mem hn.1]
    · next e =>
      rw [filter_ne_of_not_mem (h.not_mem_queue (by rw [hs]; simpa using Ne.symm e))]
  · rw [sentItem_held, filter_ne_of_not_mem (h.not_mem_held (by rw [hs]; simp))]

theorem sendHead_sound {s : State} (h : PlacementSound s) {k : LaneId} {item : Item} {rest : List Item}
    (hq : (s.lane k).queue = item :: rest) :
    PlacementSound (sendHead k item rest s) ∧ ∀ j, EntryEvent (s.entry j) ((sendHead k item rest s).entry j) := by
  have hp := h.sentItem hq
  rw [sendHead_eq]
  refine ⟨(hp.promote k).startSending k _, fun j => ?_⟩
  have hj := promote_entry hp k j
  change EntryEvent _ ((promote k (sentItem k item rest s)).entry j)
  rw [sentItem_entry] at hj
  split at hj
  · have hn := fun m => not_placed_held (sentState_not_placed k item (s.entry j).workTrigger) m
    rw [hj.eq_of_not_held hn]
    cases ht : (s.entry j).workTrigger with
    | edge => exact .ends rfl rfl fun e => by rw [ht] at e; cases e
    | level => exact .sends k item.vector rfl rfl ht
  · exact hj.event

end Sys2Proof.Machine

/-!
# The deeds of an event

Every command's effect on the Steering Table and on the lanes' queues and held lists is a sequence of the deeds below. What each deed keeps is
shown once, for each deed; what every step keeps follows.
-/

namespace Sys2Proof.Machine

-- One theorem is elaborated after the other: many at once need too many threads.
set_option Elab.async false

/-- The entries, the queues and the held lists are those of before. -/
def Quiet (s t : State) : Prop :=
  t.entries = s.entries ∧ ∀ k, (t.lane k).queue = (s.lane k).queue ∧ (t.lane k).held = (s.lane k).held

/-- One deed of an event, as far as entries, queues and held lists go. -/
inductive Deed : State → State → Prop
  /-- something else than an entry, a queue or a held list changes -/
  | quiet {s t : State} (h : Quiet s t) : Deed s t
  /-- a stored value, a raise count or the line of an EDGE entry is recorded (R3, R33, R41) -/
  | records (s : State) (i : EntryIdx) (f : Entry → Entry) (hs : (f (s.entry i)).state = (s.entry i).state)
      (hn : (f (s.entry i)).pendingCount = (s.entry i).pendingCount) (ht : (f (s.entry i)).workTrigger = (s.entry i).workTrigger)
      (hm : (f (s.entry i)).workMask = (s.entry i).workMask) (hq : (f (s.entry i)).quarantined = (s.entry i).quarantined)
      (hl : (f (s.entry i)).line = (s.entry i).line ∨ (s.entry i).workTrigger = .edge) : Deed s (s.modEntry i f)
  /-- an edge raise (R16) -/
  | edgeRaise (s : State) (i : EntryIdx) (n : Nat) (ht : (s.entry i).workTrigger = .edge) (h1 : 1 ≤ n) (h2 : n ≤ 255) :
      Deed s (edgeRaise i n s)
  /-- a level assert (R18) -/
  | levelAssert (s : State) (i : EntryIdx) : Deed s (levelAssert i s)
  /-- a deassert (R19) -/
  | deassert (s : State) (i : EntryIdx) : Deed s (deassert i s)
  /-- bound entries released (R90, R125) -/
  | releases (s : State) (is : List EntryIdx) (hn : is.Nodup) (hs : ∀ i ∈ is, ∃ k v, (s.entry i).state = .outstanding k v) :
      Deed s (releaseAll is s)
  /-- the work of a lane that is not live moved (R124) -/
  | movesWork (s : State) (k : LaneId) (hl : s.live k = false) : Deed s (lossOfWork k s)
  /-- STRANDED entries offered again (R59, R60) -/
  | offers (s : State) (is : List EntryIdx) (hn : is.Nodup) (hs : ∀ i ∈ is, (s.entry i).state = .stranded) : Deed s (offerAll is s)
  /-- the head item of a queue sent (R71, R72) -/
  | sends (s : State) (k : LaneId) (item : Item) (rest : List Item) (hq : (s.lane k).queue = item :: rest) :
      Deed s (sendHead k item rest s)
  /-- an entry record applied (R175 to R178) -/
  | writes (s : State) (i : EntryIdx) (img : Image) : Deed s (applyEntry i img s)
  /-- an entry quarantined by the sweep (R20) -/
  | quarantines (s : State) (i : EntryIdx) : Deed s (quarantineFound i s)
  /-- a reset (R7, R201) -/
  | clears {s t : State} (he : ∀ i, (t.entry i).state = .idle ∧ (t.entry i).pendingCount = 0 ∧ (t.entry i).line = false)
      (hl : ∀ k, (t.lane k).queue = [] ∧ (t.lane k).held = []) : Deed s t

/-- A deed keeps the placement law, and what it does to an entry is one of the entry's events. -/
theorem Deed.sound {s t : State} (hd : Deed s t) (h : PlacementSound s) :
    PlacementSound t ∧ ∀ i, EntryEvent (s.entry i) (t.entry i) := by
  cases hd with
  | quiet hq =>
    have he : ∀ i, t.entry i = s.entry i := fun i => by simp only [State.entry, hq.1]
    exact ⟨h.congr (fun i => by rw [he]) (fun k => (hq.2 k).1) (fun k => (hq.2 k).2), fun i => .of_eq (he i)⟩
  | records i f hs hn ht hm hq hl =>
    refine ⟨h.congr (fun j => ?_) (fun _ => rfl) (fun _ => rfl), fun j => ?_⟩ <;> rw [entry_modEntry] <;> split
    · next e => rw [e, hs]
    · rfl
    · next e =>
      subst e
      exact .records hs hn ht hm (fun h => hq.trans h) (hl.imp_right .inl)
    · exact .refl _
  | edgeRaise i n ht h1 h2 => exact edgeRaise_sound h ht h1 h2
  | levelAssert i => exact levelAssert_sound h i
  | deassert i => exact deassert_sound h i
  | releases is hn hs =>
    obtain ⟨a, b, c⟩ := releaseAll_entries h hn fun i hi => by obtain ⟨k, v, e⟩ := hs i hi; rw [e]; rfl
    refine ⟨a, fun j => ?_⟩
    by_cases hj : j ∈ is
    · exact (c j hj).event _
    · exact .of_eq (b j hj)
  | movesWork k hl =>
    obtain ⟨a, b⟩ := lossOfWork_entries h hl
    refine ⟨a, fun j => ?_⟩
    by_cases hj : (s.entry j).state = .queued k ∨ (s.entry j).state = .held k
    · exact .moves (((b j).1 hj).moves (by rcases hj with e | e <;> rw [e] <;> rfl))
    · rw [not_or] at hj
      exact .of_eq ((b j).2 hj.1 hj.2)
  | offers is hn hs =>
    obtain ⟨a, b, c⟩ := offerAll_entries h hn fun i hi => by rw [hs i hi]; rfl
    refine ⟨a, fun j => ?_⟩
    by_cases hj : j ∈ is
    · exact .moves ((c j hj).moves (by rw [hs j hj]; rfl))
    · exact .of_eq (b j hj)
  | sends k item rest hq => exact sendHead_sound h hq
  | writes i img =>
    obtain ⟨a, b, c⟩ := applyEntry_entries (.refl h) i img
    refine ⟨a.1, fun j => ?_⟩
    by_cases hj : j = i
    · rw [hj]; exact b.event
    · exact (c j hj).event
  | quarantines i =>
    obtain ⟨a, b, c⟩ := quarantineFound_entries h i
    refine ⟨a, fun j => ?_⟩
    by_cases hj : j = i
    · subst hj
      rw [b]
      by_cases hw : (s.entry j).state.waits = true
      · rw [if_pos hw]
        exact .moves (.inr ⟨hw, rfl, fun _ => rfl, rfl⟩)
      · rw [if_neg hw]
        exact .records rfl rfl rfl rfl (fun _ => rfl) (.inl rfl)
    · exact (c j hj).event
  | clears he hl =>
    refine ⟨(placementSound_iff t).mpr fun k i => ?_, fun i => .ends (he i).1 (he i).2.1 fun _ => (he i).2.2⟩
    rw [(hl k).1, (hl k).2, (he i).1]
    simp

/-- A sequence of deeds. -/
abbrev Deeds : State → State → Prop := Relation.ReflTransGen Deed

theorem Deed.deeds {s t : State} (h : Deed s t) : Deeds s t := .single h

/-- What each deed keeps, from the states with the placement law, a sequence of deeds keeps. -/
theorem Deeds.keep {P : State → Prop} (hP : ∀ s t, PlacementSound s → P s → Deed s t → P t) {s t : State} (hd : Deeds s t)
    (h : PlacementSound s) (hs : P s) : PlacementSound t ∧ P t := by
  induction hd with
  | refl => exact ⟨h, hs⟩
  | tail _ hd ih => exact ⟨(hd.sound ih.1).1, hP _ _ ih.1 ih.2 hd⟩

theorem Deeds.placement {s t : State} (hd : Deeds s t) (h : PlacementSound s) : PlacementSound t :=
  (hd.keep (P := fun _ => True) (fun _ _ _ _ _ => trivial) h trivial).1

theorem Deeds.pending {s t : State} (hd : Deeds s t) (h : PlacementSound s) (hp : PendingSound s) : PendingSound t := by
  refine (hd.keep (fun u v hu hp hd => ?_) h hp).2
  rw [pendingSound_iff] at hp ⊢
  exact fun i => ((hd.sound hu).2 i).pendingFits (hp i)

theorem Deeds.trigger {s t : State} (hd : Deeds s t) (h : PlacementSound s) (hp : PendingSound s) (ht : TriggerSound s) :
    TriggerSound t := by
  refine (hd.keep (P := fun u => PendingSound u ∧ TriggerSound u) (fun u v hu hp hd => ?_) h ⟨hp, ht⟩).2.2
  rw [pendingSound_iff, triggerSound_iff] at hp ⊢
  exact ⟨fun i => ((hd.sound hu).2 i).pendingFits (hp.1 i), fun i => ((hd.sound hu).2 i).triggerFits (hp.1 i) (hp.2 i)⟩

/-! ### Quiet changes -/

theorem Quiet.refl (s : State) : Quiet s s := ⟨rfl, fun _ => ⟨rfl, rfl⟩⟩

theorem Quiet.trans {s t u : State} (h : Quiet s t) (h' : Quiet t u) : Quiet s u :=
  ⟨h'.1.trans h.1, fun k => ⟨(h'.2 k).1.trans (h.2 k).1, (h'.2 k).2.trans (h.2 k).2⟩⟩

theorem Quiet.deeds {s t : State} (h : Quiet s t) : Deeds s t := .single (.quiet h)

/-- A change of a lane that touches neither its queue nor its held list. -/
theorem Quiet.modLane (s : State) (k : LaneId) (f : Lane → Lane)
    (hf : ∀ l, (f l).queue = l.queue ∧ (f l).held = l.held := by exact fun _ => ⟨rfl, rfl⟩) :
    Quiet s (s.modLane k f) := by
  refine ⟨rfl, fun j => ?_⟩
  rw [lane_modLane]
  split
  · next e => rw [e]; exact hf _
  · exact ⟨rfl, rfl⟩

theorem Quiet.mapLanes (s : State) (f : LaneId → Lane → Lane)
    (hf : ∀ k l, (f k l).queue = l.queue ∧ (f k l).held = l.held := by exact fun _ _ => ⟨rfl, rfl⟩) :
    Quiet s (s.mapLanes f) := ⟨rfl, fun j => by rw [lane_mapLanes]; exact hf j _⟩

/-- A state with the entries and the lanes of another. -/
theorem Quiet.of {s t : State} (he : t.entries = s.entries := by exact rfl)
    (hl : t.lanes = s.lanes := by exact rfl) : Quiet s t :=
  have h : ∀ k, t.lane k = s.lane k := fun k => by simp only [State.lane, hl]
  ⟨he, fun k => by rw [h]; exact ⟨rfl, rfl⟩⟩

theorem Quiet.modPort (s : State) (p : Port) (f : PortRecord → PortRecord) : Quiet s (s.modPort p f) := .of
theorem Quiet.setNotice (s : State) (n : NoticeKind) (r : NoticeRecord) : Quiet s (s.setNotice n r) := .of
theorem Quiet.modNode (s : State) (p : Port) (n : Node) (f : NodeRecord → NodeRecord) : Quiet s (s.modNode p n f) := .of

theorem Quiet.workToSend (s : State) (k : LaneId) : Quiet s (s.workToSend k) := .modLane s k _ fun l => by simp

theorem Quiet.raiseNotice (n : NoticeKind) (d : Nat) (s : State) : Quiet s (raiseNotice n d s) := ⟨by simp, fun k => by simp⟩

theorem Quiet.count (s : State) (k : LaneId) (f : LaneCounters → LaneCounters) : Quiet s (s.count k f) := .modLane s k _

theorem Quiet.queueControl (k : LaneId) (r : Response) (s : State) : Quiet s (queueControl k r s) := by
  unfold Machine.queueControl
  exact .trans (.modLane s k _) (.workToSend _ k)

/-- A response answered (R149). -/
theorem Quiet.answered (k : LaneId) (r : Request) (o : MgmtOutcome) (d : List Byte) (s : State) : Quiet s (answered k r o d s) :=
  .modLane s k _ fun l => by simp

/-- The idle timing at the end of an event (R127). -/
theorem Quiet.settle (c : Option LaneId) (s u : State) : Quiet u (settle c s u) :=
  ⟨rfl, fun k => by rw [settle_lane]; simp⟩

/-! ### The commands as deeds -/

/-- An event whose effect is a sequence of deeds. -/
theorem event_deeds {c : Option LaneId} {s : State} {f : State → State} (h : Deeds s (f s)) :
    ∃ t, event c s f = .next t ∧ Deeds s t := ⟨_, event_next c s f, h.tail (.quiet (.settle c s (f s)))⟩

/-- A branch of an effect. -/
theorem deeds_ite {s t u : State} {c : Prop} [Decidable c] (h : c → Deeds s t) (h' : ¬ c → Deeds s u) : Deeds s (if c then t else u) := by
  split
  · next hc => exact h hc
  · next hc => exact h' hc

end Sys2Proof.Machine

/-!
# The deeds of the field-side and lane-side commands
-/

namespace Sys2Proof.Machine

-- One theorem is elaborated after the other: many at once need too many threads.
set_option Elab.async false

/-! ### Event intake -/

/-- What an accepted frame does before it is reconciled (R31, R100). -/
theorem accepted_eq (p : Port) (n : Node) (f : State → State) (s : State) : accepted p n f s = f (accepted p n id s) := rfl

theorem Quiet.heard (p : Port) (n : Node) (s : State) : Quiet s (heard p n s) := by
  have h := fun f g => (Quiet.modNode s p n f).trans (.modPort _ p g)
  unfold Machine.heard
  dsimp only
  split
  · exact (h _ _).trans (.raiseNotice _ _ _)
  · exact (h _ _).trans (.raiseNotice _ _ _)
  · exact h _ _
  · exact h _ _

theorem Quiet.accepted (p : Port) (n : Node) (s : State) : Quiet s (accepted p n id s) := (Quiet.modPort s p _).trans (.heard p n _)

theorem Quiet.entry {s t : State} (h : Quiet s t) (i : EntryIdx) : t.entry i = s.entry i := by simp only [State.entry, h.1]

theorem raiseEffect_deeds (s : State) (i : EntryIdx) {n : Nat} (h1 : 1 ≤ n) (h2 : n ≤ 255) : Deeds s (raiseEffect i n s) := by
  cases ht : (s.entry i).workTrigger with
  | edge => rw [raiseEffect_edge ht]; exact .single (.edgeRaise s i n ht h1 h2)
  | level => rw [raiseEffect_level ht]; exact .single (.levelAssert s i)

theorem recordCount_deed (s : State) (i : EntryIdx) (c : RaiseCount) : Deed s (recordCount i c s) :=
  .records s i _ rfl rfl rfl rfl rfl (.inl rfl)

theorem raiseDiff_le (r c : RaiseCount) : raiseDiff r c ≤ 15 := by unfold raiseDiff; omega

/-- The recording of a count and of missed raises, which comes before the effect of a frame (R33, R37, R40). -/
theorem countAndRecord_deeds (s : State) (p : Port) (i : EntryIdx) (c : RaiseCount) (m : Nat) :
    Deeds s (recordCount i c (countMissed s p m)) := (Quiet.modPort s p _).deeds.tail (recordCount_deed _ i c)

theorem knownRaise_deeds (p : Port) (i : EntryIdx) (c : RaiseCount) {diff : Nat} (h1 : 1 ≤ diff) (h2 : diff ≤ 15) (s : State) :
    Deeds s (knownRaise p i c diff s) := (countAndRecord_deeds s p i c _).trans (raiseEffect_deeds _ i h1 (by omega))

theorem recordCount_workTrigger (s : State) (i : EntryIdx) (c : RaiseCount) : ((recordCount i c s).entry i).workTrigger = (s.entry i).workTrigger := by
  rw [recordCount, entry_modEntry_same]

theorem knownDrop_deeds (p : Port) (i : EntryIdx) (c : RaiseCount) {diff : Nat} (h1 : 1 ≤ diff) (h2 : diff ≤ 15) (s : State) :
    Deeds s (knownDrop p i c diff s) := by
  have h := countAndRecord_deeds s p i c diff
  unfold knownDrop
  dsimp only
  split
  · next ht =>
    refine (h.tail (.edgeRaise _ i diff ?_ h1 (by omega))).tail (.deassert _ i)
    rw [recordCount_workTrigger]
    exact ht
  · exact h.tail (.deassert _ i)

theorem reconcileRaise_deeds (p : Port) (i : EntryIdx) (c : RaiseCount) (s : State) : Deeds s (reconcileRaise p i c s) := by
  unfold reconcileRaise
  split
  · exact (recordCount_deed s i c).deeds.trans (raiseEffect_deeds _ i (Nat.le_refl 1) (by omega))
  · next r _ =>
    exact deeds_ite (fun _ => (Quiet.modPort s p _).deeds) fun hd =>
      knownRaise_deeds p i c (by omega) (raiseDiff_le r c) s

theorem reconcileDrop_deeds (p : Port) (i : EntryIdx) (c : RaiseCount) (s : State) : Deeds s (reconcileDrop p i c s) := by
  unfold reconcileDrop
  split
  · exact (recordCount_deed s i c).deeds.tail (.deassert _ i)
  · next r _ =>
    exact deeds_ite (fun _ => deeds_ite (fun _ => .single (.deassert s i)) fun _ => (Quiet.modPort s p _).deeds) fun hd =>
      knownDrop_deeds p i c (by omega) (raiseDiff_le r c) s

theorem adoptPresent_deeds (i : EntryIdx) (v : Bool) (c : RaiseCount) (s : State) : Deeds s (adoptPresent i v c s) := by
  have h : Deeds s (recordCount i c s) := .single (recordCount_deed s i c)
  unfold adoptPresent
  dsimp only
  refine deeds_ite (fun _ => ?_) fun _ => h
  split
  · next ht =>
    exact h.tail (.records _ i (fun e => { e with line := true }) rfl rfl rfl rfl rfl (.inr ((recordCount_workTrigger s i c).trans ht)))
  · exact h.tail (.levelAssert _ i)

theorem reconcilePresent_deeds (p : Port) (i : EntryIdx) (v : Bool) (c : RaiseCount) (s : State) :
    Deeds s (reconcilePresent p i v c s) := by
  unfold reconcilePresent
  split
  · exact adoptPresent_deeds i v c s
  · next r _ =>
    refine deeds_ite (fun _ => deeds_ite (fun _ => .refl) fun _ => .single (.deassert s i)) fun hd => ?_
    exact deeds_ite (fun _ => knownRaise_deeds p i c (by omega) (raiseDiff_le r c) s) fun _ =>
      knownDrop_deeds p i c (by omega) (raiseDiff_le r c) s

/-- A frame that is received is accepted, and then reconciled (R31). -/
theorem received_deeds (p : Port) (n : Node) (f : State → State) (hf : ∀ s, Deeds s (f s)) (s : State) :
    Deeds s (if receives s p then accepted p n f s else s) :=
  deeds_ite (fun _ => (Quiet.accepted p n s).deeds.trans (hf _)) fun _ => .refl

/-! ### Node presence -/

theorem absentLine_deeds (i : EntryIdx) (s : State) : Deeds s (absentLine i s) :=
  (Deed.deassert s i).deeds.tail (.records _ i _ rfl rfl rfl rfl rfl (.inl rfl))

theorem nodeAbsence_deeds (p : Port) (n : Node) (s : State) : Deeds s (nodeAbsence p n s) :=
  ((((Quiet.modNode s p n _).trans (.modPort _ p _)).deeds.trans (absentLine_deeds _ _)).trans (absentLine_deeds _ _)).trans
    (Quiet.raiseNotice _ _ _).deeds

/-- A fold of sequences of deeds. -/
theorem foldl_deeds {α : Type} (f : State → α → State) (l : List α) (hf : ∀ s, ∀ a ∈ l, Deeds s (f s a)) (s : State) : Deeds s (l.foldl f s) := by
  induction l generalizing s with
  | nil => exact .refl
  | cons a rest ih => exact (hf s a List.mem_cons_self).trans (ih (fun s b hb => hf s b (List.mem_cons_of_mem _ hb)) _)

theorem portLoss_deeds (p : Port) (s : State) : Deeds s (portLoss p s) := by
  unfold portLoss
  exact ((Quiet.modPort s p _).deeds.trans (foldl_deeds _ _ (fun u n _ => deeds_ite (fun _ => nodeAbsence_deeds p n u) fun _ => .refl) _)).trans
    (Quiet.raiseNotice _ _ _).deeds

theorem Quiet.portGain (p : Port) (s : State) : Quiet s (portGain p s) := (Quiet.modPort s p _).trans (.raiseNotice _ _ _)

theorem quietTimerExpiry_deeds (p : Port) (n : Node) (s : State) : ∃ t, execQuietTimerExpiry p n s = .next t ∧ Deeds s t := by
  refine event_deeds (deeds_ite (fun _ => ?_) fun _ => .refl)
  split
  · exact ((Quiet.modNode s p n _).trans (.modPort _ p _)).deeds
  · exact nodeAbsence_deeds p n s
  · exact (Quiet.modNode s p n _).deeds
  · exact (Quiet.modNode s p n _).deeds

theorem probe_deeds (p : Port) (s : State) : ∃ t, execProbe p s = .next t ∧ Deeds s t := by
  refine event_deeds ?_
  split
  · exact ((Quiet.modPort s p _).trans (.modNode _ p _ _)).deeds
  · exact .refl

theorem rollcall_deeds (p : Port) (s : State) : ∃ t, execRollcall p s = .next t ∧ Deeds s t := by
  refine event_deeds ?_
  split
  · exact (Quiet.modPort s p _).deeds
  · exact .refl

/-! ### Lane loss and bring-up -/

theorem rowsWhere_entries (p : Entry → Bool) (s : State) (i : EntryIdx) : i ∈ rowsWhere p s.entries ↔ p (s.entry i) = true :=
  mem_rowsWhere p s.entries i

theorem boundTo_iff (k : LaneId) (e : Entry) : e.boundTo k = true ↔ ∃ v, e.state = .outstanding k v := by
  unfold Entry.boundTo
  split
  · next j v h => simp [h]
  · next h => simpa using fun v => h k v

theorem strandedWhere_mem (p : GroupId → Bool) (s : State) (i : EntryIdx) :
    i ∈ strandedWhere p s ↔ (s.entry i).state = .stranded ∧ p (s.entry i).image.group = true := by
  rw [strandedWhere, rowsWhere_entries]
  simp

theorem lossOfLane_not_live (k : LaneId) (cause : LossCause) (s : State) : (lossOfLane k cause s).live k = false := by
  simp only [lossOfLane, State.live, lane_modLane_same]
  split <;> rfl

theorem Quiet.lossOfLane (k : LaneId) (cause : LossCause) (s : State) : Quiet s (lossOfLane k cause s) := .modLane s k _

theorem Quiet.clearStaging (s : State) : Quiet s (clearStaging s) := (Quiet.mapLanes s (fun _ l => { l with readPos := 0 }) fun _ _ => ⟨rfl, rfl⟩).trans .of

theorem Quiet.lossOfManagement (k : LaneId) (s : State) : Quiet s (lossOfManagement k s) := by
  have h : Quiet s (s.modLane k fun l => { l with control := [], slot := none, readPos := 0 }) := .modLane s k _
  unfold Machine.lossOfManagement
  dsimp only
  split <;> split
  · exact (h.trans .of).trans (.clearStaging _)
  · exact h.trans (.clearStaging _)
  · exact h.trans .of
  · exact h

theorem laneLoss_deeds (k : LaneId) (cause : LossCause) (s : State) : Deeds s (laneLoss k cause s) := by
  have h : Deeds s (lossOfManagement k (lossOfBindings k (lossOfWork k (lossOfLane k cause s)))) := by
    refine (((Quiet.lossOfLane k cause s).deeds.tail (.movesWork _ k (lossOfLane_not_live k cause s))).tail
      (.releases _ _ (rowsWhere_nodup _ _) fun i hi => ?_)).trans (Quiet.lossOfManagement k _).deeds
    rw [rowsWhere_entries, boundTo_iff] at hi
    exact ⟨k, hi⟩
  unfold laneLoss
  dsimp only
  split
  · exact h.trans (Quiet.raiseNotice _ _ _).deeds
  · exact h

theorem helloDown_deeds (k : LaneId) (limit : Byte) (s : State) : Deeds s (helloDown k limit s) := by
  refine deeds_ite (fun _ => ?_) fun _ => (Quiet.modLane s k _).deeds
  exact (Quiet.modLane s k _).deeds.tail
    (.offers _ _ (rowsWhere_nodup _ _) fun i hi => ((strandedWhere_mem _ _ i).mp hi).1)

theorem hello_deeds (k : LaneId) (limit : Byte) (s : State) : ∃ t, execHello k limit s = .next t ∧ Deeds s t :=
  event_deeds <| deeds_ite (fun _ => deeds_ite (fun _ => (laneLoss_deeds k _ s).trans (helloDown_deeds k limit _)) fun _ =>
    deeds_ite (fun _ => helloDown_deeds k limit s) fun _ => .refl) fun _ => .refl

/-! ### Frames and timers of a live lane -/

theorem Quiet.frameWakes (k : LaneId) (s : State) : Quiet s (frameWakes k s) := by
  unfold Machine.frameWakes
  split
  · dsimp only
    split
    · exact (Quiet.modLane s k _).trans (.count _ k _)
    · exact .modLane s k _
  · exact .modLane s k _
  · exact .modLane s k _
  · exact .modLane s k _
  all_goals exact .refl s

theorem hostFrame_deeds (k : LaneId) (take : State → State) (h : ∀ s, Deeds s (take s)) (s : State) : Deeds s (hostFrame k take s) :=
  deeds_ite (fun _ => (Quiet.frameWakes k s).deeds.trans (h _)) fun _ => .refl

theorem takeRetire_deeds (k : LaneId) (v : Byte) (s : State) : Deeds s (takeRetire k v s) := by
  have hm : ∀ i, i ∈ matchingSet s k v → ∃ k v, (s.entry i).state = .outstanding k v := fun i hi => by
    rw [matchingSet, rowsWhere_entries, decide_eq_true_eq] at hi
    exact ⟨k, v, hi⟩
  unfold takeRetire
  dsimp only
  split
  · exact (((Quiet.count s k _).trans (.count _ k _)).trans (.raiseNotice _ _ _)).deeds
  · exact (Quiet.count s k _).deeds.tail (.releases _ _ (rowsWhere_nodup _ _) hm)

theorem takeCredit_deeds (k : LaneId) (c : Byte) (s : State) : Deeds s (takeCredit k c s) :=
  deeds_ite (fun _ => .refl) fun _ => deeds_ite (fun _ => (Quiet.modLane s k _).deeds) fun _ =>
    (((Quiet.modLane s k _).trans (.count _ k _)).trans (.raiseNotice _ _ _)).deeds

theorem takeRequest_deeds (k : LaneId) (payload : List Byte) (s : State) : Deeds s (takeRequest k payload s) := by
  unfold takeRequest
  split
  · exact deeds_ite (fun _ => (Quiet.count s k _).deeds) fun _ => deeds_ite (fun _ => (Quiet.queueControl k _ s).deeds) fun _ =>
      (Quiet.modLane s k _).deeds
  · exact (Quiet.count s k _).deeds

/-- A change of a lane's power state leaves its queue and its held list. -/
def KeepsWork (f : Lane → Lane) : Prop := ∀ l, (f l).queue = l.queue ∧ (f l).held = l.held

theorem KeepsWork.wake (b : Bool) : KeepsWork (Lane.wake b) := fun l => by unfold Lane.wake; split <;> exact ⟨rfl, rfl⟩

theorem KeepsWork.wakeOnEntry (p w : Bool) : KeepsWork (wakeOnEntry p w) := fun l => by
  unfold Machine.wakeOnEntry
  split
  · exact KeepsWork.wake _ l
  · split
    · exact KeepsWork.wake _ l
    · exact ⟨rfl, rfl⟩

theorem KeepsWork.comp {f g : Lane → Lane} (hf : KeepsWork f) (hg : KeepsWork g) : KeepsWork fun l => f (g l) := fun l =>
  ⟨(hf _).1.trans (hg l).1, (hf _).2.trans (hg l).2⟩

theorem KeepsWork.deepParkIfDue (due : Bool) : KeepsWork (deepParkIfDue due) := fun l => by
  unfold Machine.deepParkIfDue
  split <;> exact ⟨rfl, rfl⟩

theorem KeepsWork.parkAccepted (d : Depth) (w : Bool) : KeepsWork (parkAccepted d w) := fun _ =>
  ((KeepsWork.deepParkIfDue _).comp (KeepsWork.wakeOnEntry _ w)) _

theorem KeepsWork.parkDeclined (d : Depth) (w : Bool) : KeepsWork (parkDeclined d w) := fun l => by
  unfold Machine.parkDeclined
  cases d with
  | doze => exact ⟨rfl, rfl⟩
  | deep => exact KeepsWork.wakeOnEntry _ _ _

theorem KeepsWork.hostWakes : KeepsWork Lane.hostWakes := fun l => by
  unfold Lane.hostWakes
  split
  · exact ⟨rfl, rfl⟩
  · exact KeepsWork.wake _ l
  · exact KeepsWork.wake _ l
  all_goals exact ⟨rfl, rfl⟩

theorem parkAck_deeds (k : LaneId) (w : Bool) (s : State) : ∃ t, execParkAck k w s = .next t ∧ Deeds s t := by
  have h : Quiet s (s.modLane k fun l => { l with hostWake := w }) := .modLane s k _
  refine event_deeds (deeds_ite (fun _ => ?_) fun _ => .refl)
  dsimp only
  split
  · exact (h.trans (.modLane _ k _ (KeepsWork.parkAccepted _ w))).deeds
  · exact h.deeds.trans (hostFrame_deeds k id (fun _ => .refl) _)

theorem parkNak_deeds (k : LaneId) (w : Bool) (s : State) : ∃ t, execParkNak k w s = .next t ∧ Deeds s t := by
  have h : Quiet s (s.modLane k fun l => { l with hostWake := w }) := .modLane s k _
  refine event_deeds (deeds_ite (fun _ => ?_) fun _ => .refl)
  dsimp only
  split
  · exact ((h.trans (.modLane _ k _ (KeepsWork.parkDeclined _ w))).trans (.count _ k _)).deeds
  · exact h.deeds.trans (hostFrame_deeds k id (fun _ => .refl) _)

theorem laneFrameDiscarded_deeds (k : LaneId) (bytes : List Byte) (s : State) :
    ∃ t, execLaneFrameDiscarded k bytes s = .next t ∧ Deeds s t := by
  unfold execLaneFrameDiscarded
  split
  · exact event_deeds (Quiet.count s k _).deeds
  · exact event_deeds .refl

theorem laneLinkLost_deeds (k : LaneId) (s : State) : ∃ t, execLaneLinkLost k s = .next t ∧ Deeds s t :=
  event_deeds <| deeds_ite (fun _ => deeds_ite (fun _ => laneLoss_deeds k _ s) fun _ =>
    (Quiet.modLane s k _).deeds) fun _ => .refl

theorem hostWakeRaised_deeds (k : LaneId) (s : State) : ∃ t, execHostWakeRaised k s = .next t ∧ Deeds s t := by
  refine event_deeds (Quiet.modLane s k _ fun l => ?_).deeds
  split
  · exact KeepsWork.hostWakes _
  · exact ⟨rfl, rfl⟩

theorem idleTimerExpiry_deeds (k : LaneId) (s : State) : ∃ t, execIdleTimerExpiry k s = .next t ∧ Deeds s t := by
  refine event_deeds (Quiet.modLane s k _ fun l => ?_).deeds
  split <;> exact ⟨rfl, rfl⟩

theorem deepTimerExpiry_deeds (k : LaneId) (s : State) : ∃ t, execDeepTimerExpiry k s = .next t ∧ Deeds s t := by
  refine event_deeds (Quiet.modLane s k _ fun l => ?_).deeds
  split <;> exact ⟨rfl, rfl⟩

theorem parkReplyTimeout_deeds (k : LaneId) (w : Bool) (s : State) : ∃ t, execParkReplyTimeout k w s = .next t ∧ Deeds s t := by
  refine event_deeds ?_
  split
  · exact ((Quiet.modLane s k _ fun l => KeepsWork.parkDeclined _ w { l with hostWake := w }).trans (.count _ k _)).deeds
  · exact (Quiet.modLane s k _).deeds

theorem wakeTimerExpiry_deeds (k : LaneId) (s : State) : ∃ t, execWakeTimerExpiry k s = .next t ∧ Deeds s t :=
  event_deeds <| deeds_ite (fun _ => laneLoss_deeds k _ s) fun _ => (Quiet.modLane s k _).deeds

/-! ### The lane transmitter -/

theorem Quiet.startSending (k : LaneId) (f : LaneFrame) (s : State) : Quiet s (startSending k f s) := .modLane s k _

theorem helloReplyGrant_deeds (k : LaneId) (s : State) : ∃ t, execHelloReplyGrant k s = .next t ∧ Deeds s t := by
  refine event_deeds ?_
  split
  · exact ((Quiet.modLane s k _).trans (.startSending k _ _)).deeds
  · exact .refl

theorem parkGrant_deeds (k : LaneId) (s : State) : ∃ t, execParkGrant k s = .next t ∧ Deeds s t := by
  refine event_deeds ?_
  split
  · exact ((Quiet.modLane s k _).trans (.startSending k _ _)).deeds
  · exact .refl

theorem mgmtResponseGrant_deeds (k : LaneId) (s : State) : ∃ t, execMgmtResponseGrant k s = .next t ∧ Deeds s t := by
  refine event_deeds ?_
  split
  · exact ((Quiet.modLane s k _).trans (.startSending k _ _)).deeds
  · exact .refl

theorem noticeGrant_deeds (s : State) : ∃ t, execNoticeGrant s = .next t ∧ Deeds s t := by
  refine event_deeds ?_
  split
  · exact ((Quiet.setNotice s _ _).trans (.startSending _ _ _)).deeds
  · exact .refl

theorem send_deeds (k : LaneId) (s : State) : ∃ t, execSend k s = .next t ∧ Deeds s t := by
  refine event_deeds ?_
  split
  · next item rest _ hq => exact .single (.sends s k item rest hq)
  · exact .refl

theorem transmissionComplete_deeds (k : LaneId) (s : State) : ∃ t, execTransmissionComplete k s = .next t ∧ Deeds s t := by
  have h : Quiet s (s.modLane k fun l => { l with sending := none }) := .modLane s k _
  refine event_deeds ?_
  split
  · exact deeds_ite (fun _ => (h.trans .of).deeds) fun _ => h.deeds
  · exact .refl

end Sys2Proof.Machine

/-!
# The deeds of the management commands, of the resets and of a step

With every command a sequence of deeds, the laws R8, R9 and R10 are kept by every step.
-/

namespace Sys2Proof.Machine

-- One theorem is elaborated after the other: many at once need too many threads.
set_option Elab.async false

/-! ### Services -/

/-- A service whose operation is a sequence of deeds. -/
theorem serve_deeds (code : Nat) (write : Bool) {body : LaneId → List Byte → State → Reply}
    (h : ∀ k args s, Deeds s (body k args s).after) (s : State) : Deeds s (serve code write body s) := by
  have hp : ∀ k, Quiet s { s with pointer := k } := fun k => .of
  rcases serve_cases code write body s with ⟨e, -⟩ | ⟨k, r, -, -, ⟨-, e⟩ | ⟨-, e⟩⟩
  · rw [e]
  · rw [e]; exact ((hp k).trans (.answered k r _ _ _)).deeds
  · rw [e]; exact ((hp k).deeds.trans (h k r.args _)).trans (Quiet.answered k r _ _ _).deeds

theorem withOperand_deeds {α : Type} (o : Option α) {body : α → State → Reply} (h : ∀ a s, Deeds s (body a s).after) (s : State) :
    Deeds s (withOperand o body s).after := by
  cases o with
  | none => exact .refl
  | some a => exact h a s

/-- The service of an operation, as an event. -/
theorem service_deeds (code : Nat) (write : Bool) {body : LaneId → List Byte → State → Reply}
    (h : ∀ k args s, Deeds s (body k args s).after) (s : State) :
    ∃ t, event none s (serve code write body) = .next t ∧ Deeds s t := event_deeds (serve_deeds code write h s)

/-- An operation that answers from its operand and changes nothing. -/
theorem readService_deeds {α : Type} (code : Nat) (o : LaneId → List Byte → Option α) (f : LaneId → α → State → List Byte) (s : State) :
    ∃ t, event none s (serve code false fun k args => withOperand (o k args) fun a s => answer (f k a s) s) = .next t ∧ Deeds s t :=
  service_deeds code false (fun k args s => withOperand_deeds (o k args) (fun _ _ => .refl) s) s

theorem readStaging_deeds (s : State) : ∃ t, execReadStaging s = .next t ∧ Deeds s t :=
  service_deeds 0x08 false (fun k _ s => (Quiet.modLane s k fun l => { l with readPos := nextReadPos s k }).deeds) s

/-! ### Staged updates -/

theorem stage_deeds (k : LaneId) (r : StagedRecord) (s : State) : Deeds s (stage k r s).after := by
  have h : Quiet s (rewindReaders s) := .mapLanes s _
  unfold stage
  split
  · exact .refl
  · split
    · exact (h.trans .of).deeds
    · split
      · exact .refl
      · exact (h.trans .of).deeds

theorem discardStaging_deeds (k : LaneId) (s : State) : Deeds s (discardStaging k s).after := by
  unfold discardStaging
  split
  · exact .refl
  · split
    · exact .refl
    · exact (Quiet.clearStaging s).deeds

theorem applyCommit_deeds (s : State) : Deeds s (applyCommit s) := by
  unfold applyCommit
  refine ((Relation.ReflTransGen.trans (foldl_deeds _ _ (fun u r _ => ?_) s) (foldl_deeds _ _ (fun u r _ => ?_) _)).tail
    (.offers _ _ ((rowsWhere_nodup _ _).filter _) fun i hi => ?_)).trans (Quiet.clearStaging _).deeds
  · cases r with
    | entry i img => exact .refl
    | group g c => exact (Quiet.of (s := u) (t := u.setGroup g c)).deeds
  · cases r with
    | entry i img => exact (Deed.writes u i img).deeds
    | group g c => exact .refl
  · exact ((strandedWhere_mem _ _ i).mp (List.mem_of_mem_filter hi)).1

theorem commitStaging_deeds (k : LaneId) (s : State) : Deeds s (commitStaging k s).after := by
  unfold commitStaging
  split
  · exact .refl
  · split
    · exact .refl
    · split
      · exact .refl
      · exact applyCommit_deeds s

/-! ### The other write operations -/

theorem writeSettings_deeds (j : LaneId) (st : LaneSettings) (s : State) : Deeds s (writeSettings j st s) := by
  have h : Quiet s (s.modLane j fun l => { l with settings := st }) := .modLane s j _
  unfold writeSettings
  dsimp only
  split
  · exact deeds_ite (fun _ => h.deeds.trans (laneLoss_deeds j _ _)) fun _ => (h.trans (.modLane _ j _)).deeds
  · exact (h.trans (.modLane _ j _)).deeds
  · exact h.deeds
  · exact h.deeds

theorem setLaneBody_deeds (k : LaneId) (a : LaneId × LaneSettings) (s : State) : Deeds s (setLaneBody k a s).after := by
  unfold setLaneBody
  split
  · exact .refl
  · split
    · exact .refl
    · exact writeSettings_deeds a.1 a.2 s

theorem writeManager_deeds (k : LaneId) (s : State) : Deeds s (writeManager k s) := by
  have h : Quiet s { s with manager := k } := .of
  exact deeds_ite (fun _ => .refl) fun _ => deeds_ite (fun _ => (h.trans (.workToSend _ k)).deeds) fun _ => h.deeds

theorem clearKinds_deeds (kinds : List NoticeKind) (s : State) : Deeds s (clearKinds kinds s) :=
  foldl_deeds _ _ (fun s k _ => (Quiet.setNotice s k _).deeds) s

theorem zeroCounters_deeds (t : CounterTarget) (s : State) : Deeds s (zeroCounters t s) := by
  cases t with
  | lane k => exact (Quiet.modLane s k fun l => { l with counters := .zero }).deeds
  | port p =>
    exact (Quiet.modPort s p fun r => { r with framesAccepted := 0, framesDiscarded := 0, duplicates := 0, missedRaises := 0 }).deeds

theorem forceRetireBody_deeds (i : EntryIdx) (s : State) : Deeds s (forceRetireBody i s).after := by
  unfold forceRetireBody
  split
  · next k v h => exact (Deed.releases s [i] (by simp) (by simpa using ⟨k, v, h⟩)).deeds
  · exact .refl

theorem startSweepBody_deeds (s : State) : Deeds s (startSweepBody s).after := by
  unfold startSweepBody
  split
  · exact .refl
  · exact (Quiet.of (s := s)).deeds

theorem refusedUnknown_deeds (s : State) : ∃ t, execRefusedUnknown s = .next t ∧ Deeds s t := by
  refine event_deeds ?_
  split
  · next k r _ =>
    refine deeds_ite (fun _ => .refl) fun _ => ?_
    rw [respond_eq]
    exact ((Quiet.of (s := s) (t := { s with pointer := k })).trans (.answered k r _ _ _)).deeds
  · exact .refl

/-! ### The Table Sweep -/

theorem visitEntry_deeds (i : EntryIdx) (s : State) : Deeds s (visitEntry i s) :=
  deeds_ite (fun _ => .refl) fun _ => (Deed.quarantines s i).deeds.trans (Quiet.of (s := quarantineFound i s)).deeds

theorem advanceSweep_deeds (s : State) : Deeds s (advanceSweep s) :=
  deeds_ite (fun _ => (Quiet.of (s := s)).deeds) fun _ => (Quiet.trans (.of (s := s)) (.raiseNotice _ _ _)).deeds

theorem sweepVisit_deeds (s : State) : ∃ t, execSweepVisit s = .next t ∧ Deeds s t := by
  refine event_deeds ?_
  split
  · exact (visitEntry_deeds _ s).trans (advanceSweep_deeds _)
  · exact (Quiet.of (s := s)).deeds

/-! ### The resets -/

theorem powerOn_entry (i : EntryIdx) : State.reset.entry i = Entry.powerOn i := by simp [State.reset, State.entry]

theorem powerOn_lane (k : LaneId) : State.reset.lane k = Lane.powerOn k := by simp [State.reset, State.lane]

theorem restartAll_entry (s : State) (i : EntryIdx) : (restartAll s).entry i = restartEntry (s.entry i) :=
  getElem_mapRows restartEntry s.entries i.val i.isLt

theorem restartAll_lane (s : State) (k : LaneId) : (restartAll s).lane k = restartLane (s.lane k) :=
  lane_mapLanes s (fun _ l => restartLane l) k

theorem restartEvent_deeds (s : State) : ∃ t, execRestartEvent s = .next t ∧ Deeds s t := by
  refine event_deeds (deeds_ite (fun _ => (Deed.clears (fun i => ?_) fun k => ?_).deeds) fun _ => .refl)
  · rw [restartAll_entry]; exact ⟨rfl, rfl, rfl⟩
  · rw [restartAll_lane]; exact ⟨rfl, rfl⟩

theorem powerOnReset_deeds (ports : List Port) (lanes wakes : List LaneId) (s : State) :
    ∃ t, execPowerOnReset ports lanes wakes s = .next t ∧ Deeds s t := by
  refine event_deeds (Relation.ReflTransGen.trans (b := detectLanes lanes wakes { State.reset with pending := s.pending })
    (Deed.clears (fun i => ?_) fun k => ?_).deeds (foldl_deeds _ _ (fun u p _ => ?_) _))
  · change (State.reset.entry i).state = _ ∧ (State.reset.entry i).pendingCount = _ ∧ (State.reset.entry i).line = _
    rw [powerOn_entry]
    exact ⟨rfl, rfl, rfl⟩
  · rw [detectLanes, lane_mapLanes]
    change (State.reset.lane k).queue = _ ∧ (State.reset.lane k).held = _
    rw [powerOn_lane]
    exact ⟨rfl, rfl⟩
  · exact deeds_ite (fun _ => .refl) fun _ => (Quiet.portGain p u).deeds

/-! ### Every command, and every step -/

theorem portLinkGained_deeds (p : Port) (s : State) : ∃ t, execPortLinkGained p s = .next t ∧ Deeds s t :=
  event_deeds (deeds_ite (fun _ => .refl) fun _ => (Quiet.portGain p s).deeds)

theorem storageFault_deeds (i : EntryIdx) (f : StorageFault) (s : State) : ∃ t, execStorageFault i f s = .next t ∧ Deeds s t := by
  cases f <;> exact event_deeds (Deed.records s i _ rfl rfl rfl rfl rfl (.inl rfl)).deeds

theorem laneLinkGained_deeds (k : LaneId) (s : State) : ∃ t, execLaneLinkGained k s = .next t ∧ Deeds s t :=
  event_deeds (Quiet.modLane s k _).deeds

theorem portTransmissionComplete_deeds (p : Port) (s : State) : ∃ t, execPortTransmissionComplete p s = .next t ∧ Deeds s t :=
  event_deeds (Quiet.modPort s p _).deeds

/-- Every command is a sequence of deeds. -/
theorem exec_deeds (c : Instr) (s : State) : ∃ t, exec c s = .next t ∧ Deeds s t := by
  cases c with
  | raise p n l c => exact event_deeds (received_deeds p n _ (reconcileRaise_deeds p _ c) s)
  | drop p n l c => exact event_deeds (received_deeds p n _ (reconcileDrop_deeds p _ c) s)
  | present p n v0 c0 v1 c1 =>
    exact event_deeds (received_deeds p n _ (fun u => (reconcilePresent_deeds p _ v0 c0 u).trans (reconcilePresent_deeds p _ v1 c1 _)) s)
  | fieldFrameDiscarded p b => exact event_deeds (deeds_ite (fun _ => (Quiet.modPort s p _).deeds) fun _ => .refl)
  | portLinkLoss p => exact event_deeds (deeds_ite (fun _ => portLoss_deeds p s) fun _ => .refl)
  | portLinkGained p => exact portLinkGained_deeds p s
  | quietTimerExpiry p n => exact quietTimerExpiry_deeds p n s
  | probe p => exact probe_deeds p s
  | rollcall p => exact rollcall_deeds p s
  | storageFault i f => exact storageFault_deeds i f s
  | hello k m => exact hello_deeds k m s
  | goodbye k => exact event_deeds (deeds_ite (fun _ => laneLoss_deeds k _ s) fun _ => .refl)
  | retire k v => exact event_deeds (hostFrame_deeds k _ (takeRetire_deeds k v) s)
  | credit k c => exact event_deeds (hostFrame_deeds k _ (takeCredit_deeds k c) s)
  | mgmtRequest k payload => exact event_deeds (hostFrame_deeds k _ (takeRequest_deeds k payload) s)
  | parkAck k w => exact parkAck_deeds k w s
  | parkNak k w => exact parkNak_deeds k w s
  | ready k => exact event_deeds (hostFrame_deeds k id (fun _ => .refl) s)
  | laneFrameDiscarded k b => exact laneFrameDiscarded_deeds k b s
  | laneLinkLost k => exact laneLinkLost_deeds k s
  | laneLinkGained k => exact laneLinkGained_deeds k s
  | hostWakeRaised k => exact hostWakeRaised_deeds k s
  | idleTimerExpiry k => exact idleTimerExpiry_deeds k s
  | deepTimerExpiry k => exact deepTimerExpiry_deeds k s
  | parkReplyTimeout k w => exact parkReplyTimeout_deeds k w s
  | wakeTimerExpiry k => exact wakeTimerExpiry_deeds k s
  | helloReplyGrant k => exact helloReplyGrant_deeds k s
  | parkGrant k => exact parkGrant_deeds k s
  | mgmtResponseGrant k => exact mgmtResponseGrant_deeds k s
  | noticeGrant => exact noticeGrant_deeds s
  | send k => exact send_deeds k s
  | transmissionComplete k => exact transmissionComplete_deeds k s
  | restartEvent => exact restartEvent_deeds s
  | identify => exact service_deeds 0x01 false (fun _ _ _ => .refl) s
  | readEntry => exact readService_deeds 0x02 _ _ s
  | readGroup => exact readService_deeds 0x03 _ _ s
  | readLane w => exact readService_deeds 0x04 _ _ s
  | readNode => exact readService_deeds 0x05 _ _ s
  | readPort => exact readService_deeds 0x06 _ _ s
  | readNotices => exact service_deeds 0x07 false (fun _ _ _ => .refl) s
  | readStaging => exact readStaging_deeds s
  | readSweep => exact service_deeds 0x09 false (fun _ _ _ => .refl) s
  | stageEntry => exact service_deeds 0x0A true (fun k _ => withOperand_deeds _ (stage_deeds k)) s
  | stageGroup => exact service_deeds 0x0B true (fun k _ => withOperand_deeds _ (stage_deeds k)) s
  | commit => exact service_deeds 0x0C true (fun k _ => commitStaging_deeds k) s
  | discard => exact service_deeds 0x0D true (fun k _ => discardStaging_deeds k) s
  | setLane => exact service_deeds 0x0E true (fun k _ => withOperand_deeds _ (setLaneBody_deeds k)) s
  | setPort => exact service_deeds 0x0F true (fun _ _ => withOperand_deeds _ fun a s =>
      (Quiet.modPort s a.1 fun r => { r with quietTime := a.2 }).deeds) s
  | setManager => exact service_deeds 0x10 true (fun _ _ => withOperand_deeds _ writeManager_deeds) s
  | clearNotices => exact service_deeds 0x11 true (fun _ _ => withOperand_deeds _ clearKinds_deeds) s
  | clearCounters => exact service_deeds 0x12 true (fun _ _ => withOperand_deeds _ zeroCounters_deeds) s
  | forceRetire => exact service_deeds 0x13 true (fun _ _ => withOperand_deeds _ forceRetireBody_deeds) s
  | startSweep => exact service_deeds 0x14 true (fun _ _ => startSweepBody_deeds) s
  | restart => exact service_deeds 0x15 true (fun k _ s => (Quiet.of (s := s)).deeds) s
  | sweepVisit => exact sweepVisit_deeds s
  | powerOnReset ports lanes wakes => exact powerOnReset_deeds ports lanes wakes s
  | refusedUnknown => exact refusedUnknown_deeds s
  | portTransmissionComplete p => exact portTransmissionComplete_deeds p s

/-- The passing of a microsecond is quiet. -/
theorem Quiet.advance (s : State) : Quiet s (advance s) :=
  (Quiet.mapLanes s fun _ l =>
    { l with
      idleTimer := tickTimer l.idleTimer, deepTimer := tickTimer l.deepTimer
      parkReplyTimer := tickTimer l.parkReplyTimer, wakeTimer := tickTimer l.wakeTimer }).trans .of

/-- Every step is a sequence of deeds. -/
theorem step_deeds {s t : State} (h : step s = .next t) : Deeds s t := by
  have next : ∀ c u, exec c u = .next t → Deeds u t := fun c u e => by
    obtain ⟨v, hv, hd⟩ := exec_deeds c u
    rw [hv] at e
    cases e
    exact hd
  unfold step at h
  split at h
  · next c rest _ => exact (Quiet.of (s := s) (t := { s with pending := rest })).deeds.trans (next c _ h)
  · split at h
    · next c _ => exact next c s h
    · cases h; exact (Quiet.advance s).deeds

/-- Settles O52: every step is a sequence of deeds, each of which keeps the placement law (R8). -/
theorem placementLawIsKept : Obligations.PlacementLawIsKept := fun _ _ h hs => (step_deeds hs).placement h

/-- Settles O54: every event of an entry keeps its pending count in the bounds of its state (R9). -/
theorem pendingCountLawIsKept : Obligations.PendingCountLawIsKept := fun _ _ h hp hs => (step_deeds hs).pending h hp

/-- Settles O55: every event of an entry keeps R10 at it, with R18 and R86 as the strengthening that makes it inductive. -/
theorem levelLawIsKept : Obligations.LevelLawIsKept := by
  intro s t h hp ht hs
  have ht' := (step_deeds hs).trigger h hp ht
  refine ⟨ht', fun i hl hm hq hline hidle => ?_⟩
  obtain ⟨-, -, hi⟩ := (triggerSound_iff t).mp ht' i
  rw [hi hidle hl hm hq] at hline
  cases hline

end Sys2Proof.Machine

/-!
# Offers, promotion and withdrawal as the manual states them
-/

namespace Sys2Proof.Machine

-- One theorem is elaborated after the other: many at once need too many threads.
set_option Elab.async false

/-! ### The offer -/

section offer
variable {s : State} {i : EntryIdx}

theorem offer_latches (h : (s.entry i).quarantined = true ∨ (s.entry i).workMask = .masked) : offer i s = setDelivery i .latched s := by
  have ho := offer_outcome i s
  generalize offer i s = t at ho
  cases ho with
  | latches => rfl
  | quarantines hq hm | strands hq hm | places _ hq hm => rcases h with h | h <;> simp_all

variable (hq : (s.entry i).quarantined = false) (hm : (s.entry i).workMask = .opened)
include hq hm

theorem offer_quarantines (hc : (s.entry i).code ≠ checkCode (s.entry i).image i) : offer i s = quarantineLoose i s := by
  have ho := offer_outcome i s
  generalize offer i s = t at ho
  cases ho with
  | quarantines => rfl
  | latches h => rcases h with h | h <;> simp_all
  | strands _ _ hc' | places _ _ _ hc' => exact absurd hc' hc

variable (hc : (s.entry i).code = checkCode (s.entry i).image i)
include hc

theorem offer_strands (hk : chooseLane s (s.entry i).image.group = none) :
    offer i s = raiseNotice .entryStranded i (setDelivery i .stranded s) := by
  have ho := offer_outcome i s
  generalize offer i s = t at ho
  cases ho with
  | strands => rfl
  | latches h => rcases h with h | h <;> simp_all
  | quarantines _ _ hc' => exact absurd hc hc'
  | places k _ _ _ hk' => rw [hk] at hk'; cases hk'

theorem offer_places {k : LaneId} (hk : chooseLane s (s.entry i).image.group = some k) : offer i s = place k i s := by
  have ho := offer_outcome i s
  generalize offer i s = t at ho
  cases ho with
  | places j _ _ _ hk' => rw [hk] at hk'; cases hk'; rfl
  | latches h => rcases h with h | h <;> simp_all
  | quarantines _ _ hc' => exact absurd hc hc'
  | strands _ _ _ hk' => rw [hk] at hk'; cases hk'

end offer

theorem place_enqueues {s : State} {k : LaneId} (h : (s.lane k).queue.length < 32) (i : EntryIdx) : place k i s = enqueue k i s := if_pos h

theorem place_holds {s : State} {k : LaneId} (h : 32 ≤ (s.lane k).queue.length) (i : EntryIdx) :
    place k i s = setDelivery i (.held k) (s.modLane k fun l => { l with held := l.held ++ [i] }) := if_neg (Nat.not_lt.mpr h)

/-- Settles O7: the four outcomes of an offer, with the queue's depth deciding the place (R11, R57). -/
theorem offerOutcomes : Obligations.OfferOutcomes := by
  intro s i
  refine ⟨offer_latches, fun _ => rfl, fun hq hm => ⟨offer_quarantines hq hm, fun hc => ⟨fun hk => ?_, fun k hk => ⟨fun hl => ?_, fun hl => ?_⟩⟩⟩⟩
  · exact offer_strands hq hm hc ((chooseLane_eq_none s _).mpr hk)
  · rw [offer_places hq hm hc hk, place_enqueues hl]; rfl
  · rw [offer_places hq hm hc hk, place_holds hl]; rfl

/-! ### Promotion -/

section promotion
variable {s : State} {k : LaneId}

theorem promote_of_live (h : s.live k = true) : promote k s = promoteFrom k (s.lane k).held s := if_pos h

theorem promoteFrom_pass {i : EntryIdx} (rest : List EntryIdx) (h : (s.entry i).code = checkCode (s.entry i).image i) :
    promoteFrom k (i :: rest) s = enqueue k i (s.modLane k fun l => { l with held := rest }) := by
  rw [promoteFrom, if_pos ((checkPasses_iff s i).mpr h)]

theorem promoteFrom_fail {i : EntryIdx} (rest : List EntryIdx) (h : (s.entry i).code ≠ checkCode (s.entry i).image i) :
    promoteFrom k (i :: rest) s = promoteFrom k rest (quarantineLoose i (s.modLane k fun l => { l with held := rest })) := by
  rw [promoteFrom, if_neg fun e => h ((checkPasses_iff s i).mp e)]

/-- A change that leaves the lane as it is. -/
theorem modLane_self {f : Lane → Lane} (h : f (s.lane k) = s.lane k) : s.modLane k f = s := by
  rw [State.modLane, h, State.lane, Vector.set_getElem_self]

/-- A run of held entries that fail their check: they are quarantined one after the other, and promotion goes on from there (R12, R20). -/
theorem promoteFrom_bad (bad w : List EntryIdx) (hn : bad.Nodup) (hb : ∀ b ∈ bad, (s.entry b).code ≠ checkCode (s.entry b).image b) :
    ∃ u, promoteFrom k (bad ++ w) s = promoteFrom k w u ∧ (u.lane k).queue = (s.lane k).queue ∧
      (u.lane k).enqueueSeq = (s.lane k).enqueueSeq ∧
      ∀ j, u.entry j = if j ∈ bad then { s.entry j with quarantined := true, state := .latched } else s.entry j := by
  induction bad generalizing s with
  | nil => exact ⟨s, rfl, rfl, rfl, fun j => by simp⟩
  | cons i rest ih =>
    obtain ⟨hi, hn⟩ := List.nodup_cons.mp hn
    let v := quarantineLoose i (s.modLane k fun l => { l with held := rest ++ w })
    have hv : ∀ j, v.entry j = if j = i then { s.entry i with quarantined := true, state := .latched } else s.entry j :=
      quarantineLoose_entry _ i
    have hvn : ∀ j ∈ rest, v.entry j = s.entry j := fun j hj => by rw [hv, if_neg (by rintro rfl; exact hi hj)]
    obtain ⟨u, hu, hq, ho, he⟩ := ih (s := v) hn fun b hb' => by rw [hvn b hb']; exact hb b (List.mem_cons_of_mem _ hb')
    refine ⟨u, ?_, hq.trans (by simp [v]), ho.trans (by simp [v]), fun j => ?_⟩
    · rw [List.cons_append, promoteFrom_fail _ (hb i List.mem_cons_self), hu]
    · rw [he]
      by_cases hr : j ∈ rest
      · simp [hr, hvn j hr]
      · by_cases hj : j = i
        · subst hj; simp [hr, hv]
        · simp [hr, hv, hj]

end promotion

/-- Settles O10: promotion by the first held entry, and by the held list whole (R12, R69). -/
theorem promotionTakesTheOldestThatPasses : Obligations.PromotionTakesTheOldestThatPasses := by
  intro s k
  refine ⟨promote_of_not_live, fun hh => ?_, fun i rest hl hh => ⟨fun hc => ?_, fun hc => ?_⟩, fun hl bad hn hb => ⟨fun hh => ?_, ?_⟩⟩
  · unfold promote
    split
    · rw [hh, promoteFrom]
      exact modLane_self (by rw [← hh])
    · rfl
  · rw [promote_of_live hl, hh, promoteFrom_pass rest hc]; rfl
  · rw [promote_of_live hl, hh, promoteFrom_fail rest hc]
    have hl' : (quarantineLoose i (s.modLane k fun l => { l with held := rest })).live k = true := by
      rw [(Delivers.quarantineLoose i _).live, State.live, lane_modLane_same]; exact hl
    have hh' : ((quarantineLoose i (s.modLane k fun l => { l with held := rest })).lane k).held = rest := by
      rw [quarantineLoose_held, lane_modLane_same]
    refine Eq.trans ?_ (promote_of_live hl').symm
    rw [hh']
  · obtain ⟨u, hu, hq, -, he⟩ := promoteFrom_bad (k := k) bad [] hn hb
    rw [List.append_nil] at hu
    rw [promote_of_live hl, hh, hu, promoteFrom, lane_modLane_same]
    exact ⟨rfl, hq, fun b hb => by rw [modLane_entry, he, if_pos hb]⟩
  · intro good rest hh hg hc
    obtain ⟨u, hu, hq, ho, he⟩ := promoteFrom_bad (k := k) bad (good :: rest) hn hb
    have heg : u.entry good = s.entry good := by rw [he, if_neg hg]
    rw [promote_of_live hl, hh, hu, promoteFrom_pass rest (by rw [heg]; exact hc)]
    refine ⟨by rw [enqueue_held, lane_modLane_same], ?_, ?_, fun b hb => ?_, fun j hj hne => ?_⟩
    · rw [enqueue_queue, if_pos rfl, lane_modLane_same, modLane_entry, heg, hq, ho]
    · rw [enqueue_entry, if_pos rfl, modLane_entry, heg]
    · rw [enqueue_entry, if_neg (by rintro rfl; exact hg hb), modLane_entry, he, if_pos hb]
    · rw [enqueue_entry, if_neg hne, modLane_entry, he, if_neg hj]

/-! ### Withdrawal -/

theorem not_placed_of {d : DeliveryState} (h : ∀ k, d ≠ .queued k ∧ d ≠ .held k) : d.placed = false := by
  cases d with
  | held k => exact absurd rfl (h k).2
  | queued k => exact absurd rfl (h k).1
  | idle | latched | stranded | outstanding => rfl

/-- Settles O11: a withdrawal keeps the placement law and leaves its entry in no structure (R14). -/
theorem withdrawalTakesTheEntryOut : Obligations.WithdrawalTakesTheEntryOut := by
  intro s i h
  have hd := Delivers.withdraw i s
  have hp := h.withdraw i
  have hi := withdraw_not_placed h i
  refine ⟨hd.pendingCount i, fun k => ⟨hp.not_mem_queue (not_placed_queued hi k), hp.not_mem_held (not_placed_held hi k),
    hd.availableCredit k, hd.creditLimit k⟩, fun hn => withdraw_of_not_placed (not_placed_of hn), fun k hk => ?_, fun k hk => ?_⟩
  · rw [withdraw_of_held hk, takeOut, hk]; rfl
  · have ht : takeOut i s = (s.modLane k fun l => { l with queue := l.queue.filter (fun x => decide (x.entry ≠ i)) }).modEntry i
        fun e => { e with state := .latched } := by rw [takeOut, hk]; rfl
    rw [withdraw_of_queued hk, ht]
    refine ⟨fun hl => promote_of_not_live ?_, fun _ => rfl⟩
    rw [State.live, modEntry_lane, lane_modLane_same]
    exact hl

end Sys2Proof.Machine

/-!
# The frames of a node, reconciled

RAISE and DROP as the manual states them, case by case (R33 to R40), and the storage fault (R3).
-/

namespace Sys2Proof.Machine

-- One theorem is elaborated after the other: many at once need too many threads.
set_option Elab.async false

/-! ### Changes that are one change, or none -/

section changes
variable {s : State}

theorem modEntry_congr {i : EntryIdx} {f g : Entry → Entry} (h : f (s.entry i) = g (s.entry i)) : s.modEntry i f = s.modEntry i g := by
  rw [State.modEntry, State.modEntry, h]

theorem modEntry_self {i : EntryIdx} {f : Entry → Entry} (h : f (s.entry i) = s.entry i) : s.modEntry i f = s := by
  rw [State.modEntry, h, State.entry, Vector.set_getElem_self]

theorem modPort_self {p : Port} {f : PortRecord → PortRecord} (h : f (s.port p) = s.port p) : s.modPort p f = s := by
  rw [State.modPort, h, State.port, Vector.set_getElem_self]

theorem raiseNotice_modEntry (n : NoticeKind) (d : Nat) (i : EntryIdx) (f : Entry → Entry) :
    (raiseNotice n d s).modEntry i f = raiseNotice n d (s.modEntry i f) := by
  unfold raiseNotice
  by_cases h : (s.notice n).isSet = true
  · rw [if_pos h, modEntry_notice, if_pos h]; rfl
  · rw [if_neg h, modEntry_notice, if_neg h]; rfl

/-- Missed raises of 0 count nothing. -/
theorem countMissed_zero (p : Port) : countMissed s p 0 = s := modPort_self (by simp)

/-- A count that is recorded already changes nothing. -/
theorem recordCount_self {i : EntryIdx} {c : RaiseCount} (h : (s.entry i).raiseCount = some c) : recordCount i c s = s :=
  modEntry_self (by rw [← h])

theorem setDelivery_setPending (i : EntryIdx) (d : DeliveryState) (n : Nat) :
    setDelivery i d (setPending i n s) = s.modEntry i fun e => { e with state := d, pendingCount := n } := modEntry_modEntry ..

end changes

/-! ### The line effects on an entry whose count has been recorded -/

section effects
variable {s : State} {i : EntryIdx}

/-- An edge raise of an IDLE entry (R16). -/
theorem edgeRaise_idle_eq (h : (s.entry i).state = .idle) (n : Nat) :
    edgeRaise i n s = offer i (s.modEntry i fun e => { e with line := true, pendingCount := n }) := by
  rw [edgeRaise_idle h, setPending, setLine, modEntry_modEntry]

/-- An edge raise of an entry that waits: it keeps its place and counts on, up to 255 (R16, R17). -/
theorem edgeRaise_waits_eq (h : (s.entry i).state.waits = true) (n : Nat) :
    edgeRaise i n s =
      if 255 < (s.entry i).pendingCount + n then
        raiseNotice .countSaturated i
          (s.modEntry i fun e => { e with line := true, pendingCount := min 255 (e.pendingCount + n) })
      else s.modEntry i fun e => { e with line := true, pendingCount := min 255 (e.pendingCount + n) } := by
  have hp : ((setLine i true s).entry i).pendingCount = (s.entry i).pendingCount := by rw [setLine_entry, if_pos rfl]
  have hm : setPending i (min 255 ((s.entry i).pendingCount + n)) (setLine i true s) =
      s.modEntry i fun e => { e with line := true, pendingCount := min 255 (e.pendingCount + n) } := by
    rw [setPending, setLine, modEntry_modEntry]
    exact modEntry_congr rfl
  rw [edgeRaise_waits h, coalesce_eq, hp, hm]

/-- A level assert of an IDLE entry whose line is deasserted (R18). -/
theorem levelAssert_idle_eq (hl : (s.entry i).line = false) (h : (s.entry i).state = .idle) :
    levelAssert i s = offer i (s.modEntry i fun e => { e with line := true, pendingCount := 1 }) := by
  rw [levelAssert_idle hl h, setPending, setLine, modEntry_modEntry]

/-- A deassert of a LEVEL entry that waits (R19). -/
theorem deassert_level_waits_eq (hl : (s.entry i).line = true) (ht : (s.entry i).workTrigger = .level)
    (hw : (s.entry i).state.waits = true) :
    deassert i s =
      (withdraw i (s.modEntry i fun e => { e with line := false })).modEntry i fun e => { e with state := .idle, pendingCount := 0 } := by
  rw [deassert_level_waits hl ht hw, setDelivery_setPending]
  rfl

end effects

/-! ### A frame received -/

section frames
variable {s : State} {p : Port} (hl : (s.port p).link = true) (hs : (s.port p).sending = none) (n : Node) (l : Line) (c : RaiseCount)

@[simp] theorem accepted_entry (s : State) (p : Port) (n : Node) (i : EntryIdx) : (accepted p n id s).entry i = s.entry i :=
  (Quiet.accepted p n s).entry i

include hl hs

theorem receives_of : receives s p = true := by simp [receives, hl, hs]

/-- A RAISE that is received is accepted and reconciled (R31). -/
theorem raise_received {u : State} (h : reconcileRaise p (entryIndex p n l) c (accepted p n id s) = u) :
    ∃ t, exec (.raise p n l c) s = .next t ∧ t.still = u.still := by
  refine ⟨_, event_next none s _, ?_⟩
  rw [settle_still, if_pos (receives_of hl hs), accepted_eq, h]

/-- A DROP that is received is accepted and reconciled (R31). -/
theorem drop_received {u : State} (h : reconcileDrop p (entryIndex p n l) c (accepted p n id s) = u) :
    ∃ t, exec (.drop p n l c) s = .next t ∧ t.still = u.still := by
  refine ⟨_, event_next none s _, ?_⟩
  rw [settle_still, if_pos (receives_of hl hs), accepted_eq, h]

end frames

theorem raiseDiff_eq_zero (r c : RaiseCount) : raiseDiff r c = 0 ↔ c = r := by
  have hr := r.isLt
  have hc := c.isLt
  rw [raiseDiff, BitVec.toNat_sub, ← BitVec.toNat_inj]
  omega

section reconcile
variable {s : State} {p : Port} {i : EntryIdx} {c r : RaiseCount}

theorem reconcileRaise_unknown (h : (s.entry i).raiseCount = none) :
    reconcileRaise p i c s = raiseEffect i 1 (recordCount i c (countMissed s p 0)) := by
  simp only [reconcileRaise, h, countMissed_zero]

theorem reconcileRaise_known (h : (s.entry i).raiseCount = some r) (hc : c ≠ r) :
    reconcileRaise p i c s = raiseEffect i (c - r).toNat (recordCount i c (countMissed s p ((c - r).toNat - 1))) := by
  simp only [reconcileRaise, h, if_neg fun e => hc ((raiseDiff_eq_zero r c).mp e)]
  rfl

theorem reconcileDrop_unknown (h : (s.entry i).raiseCount = none) : reconcileDrop p i c s = deassert i (recordCount i c s) := by
  simp only [reconcileDrop, h]

/-- A DROP with the recorded count (R39). -/
theorem reconcileDrop_same (h : (s.entry i).raiseCount = some c) :
    reconcileDrop p i c s = if (s.entry i).line = true then deassert i s else countDuplicate s p := by
  simp only [reconcileDrop, h, if_pos ((raiseDiff_eq_zero c c).mpr rfl)]

/-- A DROP with another count (R40). -/
theorem reconcileDrop_known (h : (s.entry i).raiseCount = some r) (hc : c ≠ r) :
    reconcileDrop p i c s = knownDrop p i c (c - r).toNat s := by
  simp only [reconcileDrop, h, if_neg fun e => hc ((raiseDiff_eq_zero r c).mp e)]
  rfl

theorem knownDrop_edge (h : (s.entry i).workTrigger = .edge) (d : Nat) :
    knownDrop p i c d s = deassert i (edgeRaise i d (recordCount i c (countMissed s p d))) := by
  simp only [knownDrop, h]

theorem knownDrop_level (h : (s.entry i).workTrigger = .level) (d : Nat) :
    knownDrop p i c d s = deassert i (recordCount i c (countMissed s p d)) := by
  simp only [knownDrop, h]

theorem recordCount_entry (s : State) (i : EntryIdx) (c : RaiseCount) :
    (recordCount i c s).entry i = { s.entry i with raiseCount := some c } := by rw [recordCount, entry_modEntry_same]

@[simp] theorem countMissed_entry (s : State) (p : Port) (m : Nat) (j : EntryIdx) : (countMissed s p m).entry j = s.entry j := rfl

end reconcile

/-- Settles O13: the reconciled RAISE of an EDGE entry, by the entry's delivery state (R37, R16, R17). -/
theorem raiseWithNewCountOnAnEdgeEntry : Obligations.RaiseWithNewCountOnAnEdgeEntry := by
  intro s p n l c r hl hs hr hc ht i diff a
  have he : reconcileRaise p i c (accepted p n id s) = edgeRaise i diff (a.modEntry i fun e => { e with raiseCount := some c }) := by
    rw [reconcileRaise_known (by rw [accepted_entry]; exact hr) hc, raiseEffect_edge]
    · rfl
    · rw [recordCount_workTrigger, countMissed_entry, accepted_entry]; exact ht
  have hai : (a.modEntry i fun e => { e with raiseCount := some c }).entry i = { s.entry i with raiseCount := some c } := by
    rw [entry_modEntry_same, modPort_entry, accepted_entry]
  refine ⟨fun hi => raise_received hl hs n l c ?_, fun hw => raise_received hl hs n l c ?_⟩
  · rw [he, edgeRaise_idle_eq (by rw [hai]; exact hi), modEntry_modEntry]
  · rw [he, edgeRaise_waits_eq (by rw [hai]; exact hw), hai, modEntry_modEntry]

/-- Settles O15: the RAISE of an UNKNOWN baseline and of a LEVEL entry, by line and delivery state (R35, R38, R18). -/
theorem raiseOnALevelEntryOrAnUnknownBaseline : Obligations.RaiseOnALevelEntryOrAnUnknownBaseline := by
  intro s p n l c hl hs i missed a
  have ha : a = recordCount i c (countMissed (accepted p n id s) p missed) := rfl
  have hai : a.entry i = { s.entry i with raiseCount := some c } := by
    rw [ha, recordCount_entry, countMissed_entry, accepted_entry]
  have unknown : (s.entry i).raiseCount = none → reconcileRaise p i c (accepted p n id s) = raiseEffect i 1 a := fun h => by
    have hm : missed = 0 := by simp only [missed, h]
    rw [reconcileRaise_unknown (by rw [accepted_entry]; exact h), ha, hm]
  have level : (s.entry i).raiseCount ≠ some c → (s.entry i).workTrigger = .level →
      reconcileRaise p i c (accepted p n id s) = levelAssert i a := fun hc ht => by
    have hat : (a.entry i).workTrigger = .level := by rw [hai]; exact ht
    cases hr : (s.entry i).raiseCount with
    | none => rw [unknown hr, raiseEffect_level hat]
    | some r =>
      have hm : missed = (c - r).toNat - 1 := by simp only [missed, hr]
      rw [reconcileRaise_known (by rw [accepted_entry]; exact hr) (by rintro rfl; exact hc hr), ← hm, ← ha, raiseEffect_level hat]
  refine ⟨fun hr ht hi => raise_received hl hs n l c ?_, fun hr ht hw => raise_received hl hs n l c ?_,
    fun hr ht => ⟨fun hline => raise_received hl hs n l c ?_, fun hline hi => raise_received hl hs n l c ?_,
      fun k v hline ho => raise_received hl hs n l c ?_⟩⟩
  · rw [unknown hr, raiseEffect_edge (by rw [hai]; exact ht), edgeRaise_idle_eq (by rw [hai]; exact hi)]
  · rw [unknown hr, raiseEffect_edge (by rw [hai]; exact ht), edgeRaise_waits_eq (by rw [hai]; exact hw), hai]
  · rw [level hr ht, levelAssert_asserted (by rw [hai]; exact hline)]
  · rw [level hr ht, levelAssert_idle_eq (by rw [hai]; exact hline) (by rw [hai]; exact hi)]
  · rw [level hr ht, levelAssert_not_idle (by rw [hai]; exact hline) (by rw [hai]; exact ho ▸ nofun)]
    rfl

/-- Settles O16: the DROP by baseline, trigger, line and delivery state (R39, R40, R19). -/
theorem dropClosesTheLine : Obligations.DropClosesTheLine := by
  intro s p n l c hl hs i
  have hacc : (accepted p n id s).entry i = s.entry i := accepted_entry ..
  refine ⟨fun hr hline => drop_received hl hs n l c ?_, ?_⟩
  · rw [reconcileDrop_unknown (by rw [hacc]; exact hr), deassert_low (by rw [recordCount_entry, hacc]; exact hline)]
    rfl
  intro r hr diff a
  have ha : a = recordCount i c (countMissed (accepted p n id s) p diff) := rfl
  have hai : a.entry i = { s.entry i with raiseCount := some c } := by
    rw [ha, recordCount_entry, countMissed_entry, accepted_entry]
  have hd : diff = 0 ↔ c = r := raiseDiff_eq_zero r c
  -- With diff 0 nothing is missed and the count is recorded already, so that `a` is the accepted frame's state.
  have closes : (s.entry i).workTrigger = .level ∨ diff = 0 → (s.entry i).line = true ∨ diff ≠ 0 →
      reconcileDrop p i c (accepted p n id s) = deassert i a := fun hor hline => by
    by_cases h0 : diff = 0
    · have hc : c = r := hd.mp h0
      subst hc
      have hsame : a = accepted p n id s := by
        rw [ha, h0, countMissed_zero, recordCount_self (by rw [hacc]; exact hr)]
      rw [reconcileDrop_same (by rw [hacc]; exact hr), hacc, if_pos (hline.resolve_right (by simpa using h0)), hsame]
    · rw [reconcileDrop_known (by rw [hacc]; exact hr) fun e => h0 (hd.mpr e),
        knownDrop_level (by rw [hacc]; exact hor.resolve_right h0), ← ha]
  have raises : (s.entry i).workTrigger = .edge → diff ≠ 0 →
      reconcileDrop p i c (accepted p n id s) = deassert i (edgeRaise i diff a) := fun ht h0 => by
    rw [reconcileDrop_known (by rw [hacc]; exact hr) fun e => h0 (hd.mpr e), knownDrop_edge (by rw [hacc]; exact ht), ← ha]
  refine ⟨fun h0 hline => drop_received hl hs n l c ?_, fun ht => ⟨fun hline h0 => drop_received hl hs n l c ?_,
      fun hline hw => drop_received hl hs n l c ?_, fun hline hw => drop_received hl hs n l c ?_⟩,
    fun ht => ⟨fun hline h0 => drop_received hl hs n l c ?_, fun h0 hi => drop_received hl hs n l c ?_, fun h0 hw => ?_⟩⟩
  · have hc : c = r := hd.mp h0
    subst hc
    rw [reconcileDrop_same (by rw [hacc]; exact hr), hacc, hline]
    rfl
  · rw [closes (.inl ht) (.inr h0), deassert_low (by rw [hai]; exact hline)]
  · rw [closes (.inl ht) (.inl hline),
      deassert_level_waits_eq (by rw [hai]; exact hline) (by rw [hai]; exact ht) (by rw [hai]; exact hw)]
  · rw [closes (.inl ht) (.inl hline), deassert_level_alone (by rw [hai]; exact hline) (.inr (by rw [hai]; exact hw))]
    rfl
  · rw [closes (.inr h0) (.inl hline), deassert_level_alone (by rw [hai]; exact hline) (.inl (by rw [hai]; exact ht))]
    rfl
  · have hd := Delivers.offer i (a.modEntry i fun e => { e with line := true, pendingCount := diff })
    rw [raises ht h0, edgeRaise_idle_eq (by rw [hai]; exact hi), deassert_level_alone]
    · rfl
    · rw [hd.line, entry_modEntry_same]
    · rw [hd.workTrigger, entry_modEntry_same, hai]
      exact .inl ht
  · have hmod : ∀ m, ((a.modEntry i fun e => { e with line := true, pendingCount := min 255 (e.pendingCount + diff) }).modEntry i
        fun e => { e with line := m }) = a.modEntry i fun e => { e with line := m, pendingCount := min 255 (e.pendingCount + diff) } :=
      fun m => modEntry_modEntry ..
    refine drop_received hl hs n l c ?_
    rw [raises ht h0, edgeRaise_waits_eq (by rw [hai]; exact hw), deassert_level_alone]
    · rw [hai, setLine]
      split
      · rw [raiseNotice_modEntry, hmod]
      · rw [hmod]
    · split <;> simp [raiseNotice_entry]
    · split <;> simp [raiseNotice_entry, hai, ht]

/-- Settles O18: a storage fault is a change of the one stored value that it names (R3). -/
theorem storageFaultChangesStoredValuesOnly : Obligations.StorageFaultChangesStoredValuesOnly := fun s i img code =>
  ⟨⟨_, event_next none s (fun s => s.modEntry i fun e => { e with image := img }), settle_still ..⟩,
    ⟨_, event_next none s (fun s => s.modEntry i fun e => { e with code := code }), settle_still ..⟩⟩

end Sys2Proof.Machine

/-!
# The two resets, and the laws at power-on

The state after a power-on reset (R201) and after the restart event (R163), field by field.
-/

namespace Sys2Proof.Machine

-- One theorem is elaborated after the other: many at once need too many threads.
set_option Elab.async false

/-- At the end of an event a lane that is not ACTIVE has its idle timer stopped, and that is all (R127). -/
theorem settleIdle_of_not_active {l : Lane} (h : l.state ≠ .active) (a b : Bool) : l.settleIdle a b = { l with idleTimer := none } := if_neg h

/-! ### The restart event -/

theorem restartLane_state (l : Lane) : (restartLane l).state = if l.state = .disabled then .disabled else .down := by
  unfold restartLane
  cases h : l.state <;> rfl

theorem restartLane_not_active (l : Lane) : (restartLane l).state ≠ .active := by
  rw [restartLane_state]
  split <;> nofun

/-- A lane after the restart event (R138), with its idle timing settled. -/
theorem restartLane_settled (a b : Bool) (l : Lane) :
    (restartLane l).settleIdle a b = { restartLane l with state := if l.state = .disabled then .disabled else .down } := by
  rw [settleIdle_of_not_active (restartLane_not_active l), ← restartLane_state l]
  rfl

/-- Settles O36: the restart event, table by table (R163). -/
theorem restartEventClearsTheDynamicState : Obligations.RestartEventClearsTheDynamicState := by
  intro s h
  refine ⟨_, event_next none s _, ?_⟩
  rw [if_pos h]
  refine ⟨fun i => ?_, fun k => ?_, fun p n => ?_, fun p => ?_, fun kind => ?_, rfl, rfl, rfl, rfl, rfl, rfl, rfl⟩
  · rw [settle_entry, restartAll_entry]; rfl
  · rw [settle_lane, restartAll_lane, restartLane_settled]; rfl
  · exact Vector.getElem_replicate ..
  · exact getElem_mapRows restartPort s.ports p.val p.isLt
  · exact Vector.getElem_replicate ..

/-! ### The power-on reset -/

/-- While the manager lane is DOWN, a raise changes its notice kind and nothing else (R134, R182). -/
theorem raiseNotice_of_manager_down {s : State} (h : (s.lane s.manager).state = .down) (n : NoticeKind) (d : Nat) :
    raiseNotice n d s = s.setNotice n ((s.notice n).raised d) := by
  have hw : (s.setNotice n ((s.notice n).raised d)).workToSend s.manager = s.setNotice n ((s.notice n).raised d) :=
    modLane_self (by rw [setNotice_lane, Lane.workToSend, h])
  unfold raiseNotice
  dsimp only
  rw [hw]
  exact ite_self _

/-- The record of PORT_LINK after the link gained events of the ports of a list, each its first (R106, R182). -/
def gainedNotice : List Port → NoticeRecord
  | [] => .clear
  | p :: rest => { isSet := true, sent := false, detail := 4 + p.val, repeats := rest.length }

/-- One more port gains its link. -/
theorem gainedNotice_raised (ps : List Port) (p : Port) (h : ps.length ≤ 255) :
    (gainedNotice ps).raised (4 + p.val) = gainedNotice (ps ++ [p]) := by
  cases ps with
  | nil => rfl
  | cons q rest =>
    rw [List.length_cons] at h
    simp [gainedNotice, NoticeRecord.raised, Config.maxRepeats]
    omega

/-- The state of a port that has gained its link or not, after power-on (R26, R106). -/
def detectedPort (gained : Bool) : PortRecord :=
  { PortRecord.powerOn with link := gained, sendList := if gained then [.rollcall] else [] }

/-- The ports detected at the release: each has gained its link once, and PORT_LINK has been raised for each (R106, R201). -/
theorem detectPorts_eq {s : State} (hm : (s.lane s.manager).state = .down) (hp : ∀ p, s.port p = .powerOn)
    (hk : ∀ kind, s.notice kind = .clear) {ps : List Port} (hn : ps.Nodup) :
    detectPorts ps s = { s with ports := (detectPorts ps s).ports, notices := (detectPorts ps s).notices } ∧
    (∀ p, (detectPorts ps s).port p = detectedPort (decide (p ∈ ps))) ∧
    ∀ kind, (detectPorts ps s).notice kind = if kind = .portLink then gainedNotice ps else .clear := by
  induction ps using List.reverseRecOn with
  | nil =>
    refine ⟨rfl, fun p => ?_, fun kind => ?_⟩
    · exact hp p
    · simpa [detectPorts, gainedNotice] using hk kind
  | append_singleton ps q ih =>
    obtain ⟨hn', -, hq⟩ := List.nodup_append.mp hn
    obtain ⟨hf, hport, hnote⟩ := ih hn'
    have hq : q ∉ ps := fun h => hq q h q (by simp) rfl
    have hlen : ps.length ≤ 255 := (hn'.length_le_card).trans (by simp)
    generalize hu : detectPorts ps s = u at hf hport hnote
    have hlink : u.port q = detectedPort false := by rw [hport, decide_eq_false hq]
    have hstep : detectPorts (ps ++ [q]) s =
        (u.modPort q fun r => { r with link := true, sendList := withRollcall r.sendList }).setNotice .portLink
          ((u.notice .portLink).raised (4 + q.val)) := by
      have hdown : (u.lane u.manager).state = .down := by rw [hf]; exact hm
      have happ : detectPorts (ps ++ [q]) s = if (u.port q).link then u else portGain q u := by
        rw [← hu]; exact List.foldl_append ..
      rw [happ, hlink, if_neg (by exact Bool.false_ne_true)]
      exact raiseNotice_of_manager_down (s := u.modPort q _) hdown _ _
    refine ⟨?_, fun p => ?_, fun kind => ?_⟩
    · rw [hstep, hf]; rfl
    · rw [hstep, setNotice_port, port_modPort]
      split
      · next e =>
        rw [e, hlink, decide_eq_true (List.mem_append_right ps (List.mem_singleton_self q))]
        rfl
      · next e => rw [hport]; simp [e]
    · rw [hstep, notice_setNotice]
      split
      · next e => rw [hnote, if_pos rfl, gainedNotice_raised ps q hlen]
      · next e => rw [modPort_notice, hnote, if_neg e]

/-- Settles O37: the power-on values, and over them what the detectors report (R201). -/
theorem powerOnResetGivesThePowerOnValues : Obligations.PowerOnResetGivesThePowerOnValues := by
  intro s ports lanes wakes hn
  let d := detectLanes lanes wakes { State.reset with pending := s.pending }
  have hlane : ∀ k, d.lane k = { Lane.powerOn k with link := decide (k ∈ lanes), hostWake := decide (k ∈ wakes) } := fun k => by
    rw [← powerOn_lane k]; exact lane_mapLanes ..
  obtain ⟨hf, hport, hnote⟩ := detectPorts_eq (s := d) (by rw [hlane]; rfl) (fun p => Vector.getElem_replicate ..)
    (fun kind => Vector.getElem_replicate ..) hn
  refine ⟨settle none s (detectPorts ports d), rfl, fun i => ?_, fun g => ?_, fun k => ?_, fun p n => ?_, fun p => ?_, fun kind hne => ?_, fun h => ?_,
    fun p rest h => ?_, ?_, ?_, ?_, ?_, ?_, ?_⟩
  · rw [settle_entry, hf]; exact powerOn_entry i
  · rw [settle_group, hf]
    change State.reset.group g = _
    simp [State.reset, State.group, Group.powerOn]
  · have hlanes : (detectPorts ports d).lanes = d.lanes := by rw [hf]
    have hl : (detectPorts ports d).lane k = d.lane k := by simp only [State.lane, hlanes]
    rw [settle_lane, hl, hlane, settleIdle_of_not_active]
    · rfl
    · exact nofun
  · rw [settle_node, hf]; exact Vector.getElem_replicate ..
  · rw [settle_port, hport]
    simp [detectedPort, PortRecord.powerOn]
  · rw [settle_notice, hnote, if_neg hne]; rfl
  · rw [settle_notice, hnote, if_pos rfl, h]; rfl
  · rw [settle_notice, hnote, if_pos rfl, h]; rfl
  · rw [settle_pointer, hf]; rfl
  · rw [settle_restart, hf]; rfl
  · rw [settle_staging, hf]; rfl
  · rw [settle_owner, hf]; rfl
  · rw [settle_manager, hf]; rfl
  · rw [settle_sweep, hf]; rfl

/-! ### The laws at power-on -/

theorem powerOn_notice (kind : NoticeKind) : State.reset.notice kind = .clear := Vector.getElem_replicate ..

/-- Settles O58: every law, from the values of the entries, lanes and notices at power-on. -/
theorem resetHasEveryLaw : Obligations.ResetHasEveryLaw := by
  have live : ∀ k, State.reset.live k = false := fun k => by rw [State.live, powerOn_lane]; rfl
  refine ⟨⟨Nat.zero_le _, .nil, .nil, by simp [State.reset]⟩, fun k => ?_, ⟨0, ?_⟩, fun k => ?_, fun k => ?_, ?_, fun k => ?_,
    fun k _ => ?_, fun k => ?_, fun i => ?_, fun i => ?_, fun i _ => ?_, fun p n l _ => ?_, fun kind => ?_⟩
  · rw [powerOn_lane]; exact ⟨nofun, nofun⟩
  · rw [powerOn_lane]; exact ⟨rfl, rfl⟩
  · simp only [powerOn_lane]; exact ⟨live k, rfl⟩
  · rw [powerOn_lane]; exact Nat.zero_le _
  · rw [placementSound_iff]
    intro k i
    rw [powerOn_lane, powerOn_entry]
    exact ⟨rfl, rfl⟩
  · rw [powerOn_lane]; exact ⟨Nat.zero_le _, fun h => absurd rfl h⟩
  · rw [powerOn_lane]; exact ⟨rfl, rfl, fun i v => by rw [powerOn_entry]; nofun⟩
  · rw [powerOn_lane]; exact .nil
  · simp only [powerOn_entry]; rfl
  · simp only [powerOn_entry]; exact fun _ _ _ => rfl
  · rw [powerOn_entry]; rfl
  · rw [powerOn_entry]; exact ⟨rfl, rfl⟩
  · rw [powerOn_notice]; exact ⟨Nat.zero_le _, fun _ => rfl⟩

end Sys2Proof.Machine

/-!
# Notices raised by the delivery procedures, and the visits of a sweep

Promotion and withdrawal raise TABLE_FAULT and no other notice. With that, the visit of a sweep is given whole (R191, R192).
-/

namespace Sys2Proof.Machine

-- One theorem is elaborated after the other: many at once need too many threads.
set_option Elab.async false

/-! ### The notice table after a raise -/

theorem raiseNotice_notice (m : NoticeKind) (d : Nat) (s : State) (n : NoticeKind) :
    (raiseNotice m d s).notice n = if n = m then (s.notice m).raised d else s.notice n := by
  rw [← notice_setNotice]
  unfold raiseNotice
  dsimp only
  split <;> rfl

theorem raised_isSet (d : Nat) (r : NoticeRecord) : (r.raised d).isSet = true := by
  unfold NoticeRecord.raised
  split
  · assumption
  · rfl

theorem raised_of_isSet {r : NoticeRecord} (h : r.isSet = true) (d : Nat) :
    r.raised d = { r with repeats := min 255 (r.repeats + 1) } := if_pos h

/-- From `s` to `t` no notice but TABLE_FAULT has been raised: where it was set it keeps its detail, and its repeats have not fallen below
what they were, counted to 255. -/
def FaultsOnly (s t : State) : Prop :=
  (∀ n, n ≠ .tableFault → t.notice n = s.notice n) ∧
  ((s.notice .tableFault).isSet = true →
    (t.notice .tableFault).isSet = true ∧ (t.notice .tableFault).detail = (s.notice .tableFault).detail ∧
    min 255 (s.notice .tableFault).repeats ≤ (t.notice .tableFault).repeats)

section FaultsOnly
variable {s t u : State}

theorem FaultsOnly.of_notice (h : ∀ n, t.notice n = s.notice n) : FaultsOnly s t :=
  ⟨fun n _ => h n, fun hs => by rw [h]; exact ⟨hs, rfl, Nat.min_le_right ..⟩⟩

theorem FaultsOnly.refl (s : State) : FaultsOnly s s := .of_notice fun _ => rfl

theorem FaultsOnly.trans (h : FaultsOnly s t) (h' : FaultsOnly t u) : FaultsOnly s u := by
  refine ⟨fun n hn => (h'.1 n hn).trans (h.1 n hn), fun hs => ?_⟩
  obtain ⟨h1, h2, h3⟩ := h.2 hs
  obtain ⟨h1', h2', h3'⟩ := h'.2 h1
  exact ⟨h1', h2'.trans h2, by omega⟩

theorem FaultsOnly.raise (d : Nat) (s : State) : FaultsOnly s (raiseNotice .tableFault d s) := by
  refine ⟨fun n hn => by rw [raiseNotice_notice, if_neg hn], fun hs => ?_⟩
  rw [raiseNotice_notice, if_pos rfl, raised_of_isSet hs]
  exact ⟨hs, rfl, by dsimp only; omega⟩

theorem FaultsOnly.quarantineLoose (i : EntryIdx) (s : State) : FaultsOnly s (quarantineLoose i s) :=
  FaultsOnly.trans (t := s.modEntry i fun e => { e with quarantined := true, state := .latched }) (.of_notice fun _ => rfl) (.raise i _)

theorem FaultsOnly.promoteFrom (k : LaneId) (w : List EntryIdx) (s : State) : FaultsOnly s (promoteFrom k w s) := by
  induction w generalizing s with
  | nil => exact .of_notice fun _ => rfl
  | cons i rest ih =>
    unfold Machine.promoteFrom
    split
    · exact .of_notice fun _ => rfl
    · exact (FaultsOnly.trans (t := s.modLane k fun l => { l with held := rest }) (.of_notice fun _ => rfl)
        (.quarantineLoose i _)).trans (ih _)

theorem FaultsOnly.promote (k : LaneId) (s : State) : FaultsOnly s (promote k s) := by
  unfold Machine.promote
  split
  · exact .promoteFrom k _ s
  · exact .refl s

theorem takeOut_notice (i : EntryIdx) (s : State) (n : NoticeKind) : (takeOut i s).notice n = s.notice n := by
  unfold takeOut
  split <;> rfl

theorem FaultsOnly.withdraw (i : EntryIdx) (s : State) : FaultsOnly s (withdraw i s) := by
  have h : FaultsOnly s (takeOut i s) := .of_notice (takeOut_notice i s)
  rcases withdraw_cases s i with e | ⟨k, -, e⟩ <;> rw [e]
  · exact h
  · exact h.trans (.promote k _)

theorem withdraw_notice_of_not_queued {i : EntryIdx} (h : ∀ k, (s.entry i).state ≠ .queued k) (n : NoticeKind) :
    (Machine.withdraw i s).notice n = s.notice n := by
  rcases withdraw_cases s i with e | ⟨k, hk, -⟩
  · rw [e, takeOut_notice]
  · exact absurd hk (h k)

end FaultsOnly

/-! ### An entry quarantined by the sweep -/

/-- The entry flagged and settled, before the notice (R20). -/
def settleFound (i : EntryIdx) (s : State) : State :=
  let flagged := s.modEntry i fun e => { e with quarantined := true }
  match (s.entry i).state with
  | .queued _ | .held _ => setDelivery i .latched (withdraw i flagged)
  | .stranded => setDelivery i .latched flagged
  | .latched | .idle | .outstanding _ _ => flagged

/-- Flagging leaves the notices, so that those of the withdrawal alone are raised before the entry's own. -/
theorem settleFound_notices (i : EntryIdx) (s : State) :
    FaultsOnly s (settleFound i s) ∧
    ((∀ k, (s.entry i).state ≠ .queued k) → ∀ n, (settleFound i s).notice n = s.notice n) := by
  let flagged := s.modEntry i fun e => { e with quarantined := true }
  have hfi : (flagged.entry i).state = (s.entry i).state := by rw [entry_modEntry_same]
  have hw : FaultsOnly s (setDelivery i .latched (withdraw i flagged)) :=
    (FaultsOnly.trans (t := flagged) (.of_notice fun _ => rfl) (.withdraw i flagged)).trans (.of_notice fun _ => rfl)
  unfold settleFound
  dsimp only
  split
  · next k hk => exact ⟨hw, fun h => absurd hk (h k)⟩
  · exact ⟨hw, fun h => withdraw_notice_of_not_queued (by rw [hfi]; exact h)⟩
  all_goals exact ⟨.of_notice fun _ => rfl, fun _ _ => rfl⟩

/-! ### The visit -/

section visit
variable {s : State} {i : EntryIdx}

theorem visitEntry_passes (h : (s.entry i).code = checkCode (s.entry i).image i ∨ (s.entry i).quarantined = true) : visitEntry i s = s :=
  if_pos (by rw [Bool.or_eq_true, checkPasses_iff]; exact h)

theorem visitEntry_found (hc : (s.entry i).code ≠ checkCode (s.entry i).image i) (hq : (s.entry i).quarantined = false) :
    visitEntry i s = { quarantineFound i s with sweep := { s.sweep with faultsFound := s.sweep.faultsFound + 1 } } := by
  have hs : (quarantineFound i s).sweep = s.sweep := by rw [(Delivers.quarantineFound i s).1]
  unfold visitEntry
  dsimp only
  rw [if_neg (by rw [Bool.or_eq_true, checkPasses_iff, hq]; simpa using hc), hs]

theorem advanceSweep_next (h : s.sweep.position < 511) :
    advanceSweep s = { s with sweep := { s.sweep with position := s.sweep.position + 1, visitTimer := some 40 } } := if_pos (by omega)

theorem advanceSweep_last (h : s.sweep.position = 511) :
    advanceSweep s = raiseNotice .sweepDone s.sweep.faultsFound
      { s with sweep := { s.sweep with position := 512, running := false, visitTimer := none } } := by
  unfold advanceSweep
  rw [h]
  rfl

/-- The expiry of the visit timer of a running sweep (R191). -/
theorem sweepVisit_next (ht : s.sweep.visitTimer.isSome = true) (hr : s.sweep.running = true) (hp : s.sweep.position = i.val) :
    exec .sweepVisit s = .next (settle none s (advanceSweep (visitEntry i s))) := by
  have h : s.sweep.visitTimer.isSome ∧ s.sweep.running = true ∧ s.sweep.position < 512 := ⟨ht, hr, by omega⟩
  have hi : (⟨s.sweep.position, h.2.2⟩ : EntryIdx) = i := Fin.ext hp
  change execSweepVisit s = _
  rw [execSweepVisit, event_next, dif_pos h, hi]

end visit

/-- Settles O48: the visit of an entry that passes, and of one that does not (R191, R192, R20). -/
theorem sweepVisitsChecksAndEnds : Obligations.SweepVisitsChecksAndEnds := by
  intro s i ht hr hp
  refine ⟨fun hc => ⟨fun hi => ?_, fun hi => ?_⟩, fun hc hq hpl => ?_⟩
  · refine ⟨_, sweepVisit_next ht hr hp, ?_⟩
    rw [settle_still, visitEntry_passes hc, advanceSweep_next (by omega), hp]
  · refine ⟨_, sweepVisit_next ht hr hp, ?_⟩
    rw [settle_still, visitEntry_passes hc, advanceSweep_last (by omega)]
  intro flagged latched settled found faults
  have hfound : quarantineFound i s = found := rfl
  obtain ⟨-, hei, -⟩ := quarantineFound_entries hpl i
  obtain ⟨hnote, hnote'⟩ := settleFound_notices i s
  have hvisit : visitEntry i s = { found with sweep := { s.sweep with faultsFound := faults } } := visitEntry_found hc hq
  have hfault : ∀ n, found.notice n = if n = .tableFault then ((settleFound i s).notice .tableFault).raised i.val else (settleFound i s).notice n :=
    raiseNotice_notice .tableFault i.val (settleFound i s)
  have hnext : i.val < 511 → advanceSweep (visitEntry i s) =
      { found with sweep := { running := true, position := i.val + 1, faultsFound := faults, visitTimer := some 40 } } := fun hi => by
    rw [hvisit, advanceSweep_next (by dsimp only; omega), ← hr, ← hp]
  have hlast : i.val = 511 → advanceSweep (visitEntry i s) = raiseNotice .sweepDone faults
      { found with sweep := { running := false, position := 512, faultsFound := faults, visitTimer := none } } := fun hi => by
    rw [hvisit, advanceSweep_last (by dsimp only; omega)]
  -- The advance changes the sweep and, at its end, SWEEP_DONE.
  have hadv : (∀ j, (advanceSweep (visitEntry i s)).entry j = found.entry j) ∧
      (advanceSweep (visitEntry i s)).notice .tableFault = found.notice .tableFault ∧
      (advanceSweep (visitEntry i s)).sweep = { running := decide (i.val < 511), position := i.val + 1, faultsFound := faults
                                                visitTimer := if i.val < 511 then some 40 else none } := by
    by_cases hi : i.val < 511
    · rw [hnext hi, if_pos hi, decide_eq_true hi]
      exact ⟨fun _ => rfl, rfl, rfl⟩
    · have hi' : i.val = 511 := by omega
      rw [hlast hi', if_neg hi, decide_eq_false hi]
      refine ⟨fun j => raiseNotice_entry .., ?_, ?_⟩
      · rw [raiseNotice_notice, if_neg nofun]; rfl
      · rw [(Delivers.raiseNotice ..).1, hi']
  obtain ⟨hent, htf, hsw⟩ := hadv
  have hdone : i.val = 511 → (advanceSweep (visitEntry i s)).notice .sweepDone = (s.notice .sweepDone).raised faults := fun hi => by
    rw [hlast hi, raiseNotice_notice, if_pos rfl]
    exact congrArg (NoticeRecord.raised faults) ((hfault _).trans ((if_neg nofun).trans (hnote.1 _ nofun)))
  refine ⟨_, sweepVisit_next ht hr hp, fun hi => ?_, fun hi => ?_, hsw, fun hnq => ?_, fun hset => ?_, fun hi => ?_, ?_, ?_, fun hw => ?_,
    fun hw => ?_, ?_, ?_, ?_, ?_, fun hi => ?_⟩
  · rw [settle_still, hnext hi]
  · rw [settle_still, hlast hi]
  · rw [settle_notice, htf, hfault, if_pos rfl, hnote' hnq, raiseNotice_notice, if_pos rfl]
  · obtain ⟨h1, h2, h3⟩ := hnote.2 hset
    rw [settle_notice, htf, hfault, if_pos rfl, raised_of_isSet h1]
    exact ⟨h2, by dsimp only; omega⟩
  · rw [settle_notice, hdone hi, raiseNotice_notice, if_pos rfl]
  · rw [settle_entry, hent, ← hfound, hei]
  · rw [settle_entry, hent, ← hfound, hei]
  · rw [settle_entry, hent, ← hfound, hei]
    exact if_pos hw
  · rw [settle_entry, hent, ← hfound, hei]
    exact if_neg (by simp [hw])
  · rw [settle_notice, htf, hfault, if_pos rfl]
    exact raised_isSet ..
  · rw [settle_sweep, hsw]
  · rw [settle_sweep, hsw]
  · rw [settle_sweep, hsw]
  · rw [settle_notice, hdone hi]
    exact raised_isSet ..

end Sys2Proof.Machine

/-!
# Node absence

The quiet timer (R101) and node absence given whole (R102, R103).
-/

namespace Sys2Proof.Machine

-- One theorem is elaborated after the other: many at once need too many threads.
set_option Elab.async false

/-- Nothing changed but the entries, the lanes and the notices. -/
def DeliveryFrame (s t : State) : Prop := t = { s with entries := t.entries, lanes := t.lanes, notices := t.notices }

theorem DeliveryFrame.trans {s t u : State} (h : DeliveryFrame s t) (h' : DeliveryFrame t u) : DeliveryFrame s u := by
  unfold DeliveryFrame at *
  rw [h', h]

theorem Delivers.frame {s t : State} (h : Delivers s t) : DeliveryFrame s t := h.1

theorem Takes.frame {i : EntryIdx} {s t : State} (h : Takes i s t) : DeliveryFrame s t := h.1

theorem Releases.frame {is : List EntryIdx} {s t : State} (h : Releases is s t) : DeliveryFrame s t := h.1

/-! ### What promotion keeps of an entry -/

section promotes
variable {i : EntryIdx} {e f : Entry} (h : EntryPromotes i e f)
include h

theorem EntryPromotes.kept : f.line = e.line ∧ f.raiseCount = e.raiseCount ∧ f.pendingCount = e.pendingCount ∧
    f.workTrigger = e.workTrigger ∧ f.state.waits = e.state.waits := by
  rcases h with rfl | ⟨k, hk, ⟨-, rfl⟩ | ⟨-, rfl⟩⟩
  · exact ⟨rfl, rfl, rfl, rfl, rfl⟩
  · exact ⟨rfl, rfl, rfl, rfl, by rw [hk]; rfl⟩
  · exact ⟨rfl, rfl, rfl, rfl, by rw [hk]; rfl⟩

theorem EntryPromotes.eq_of_not_waits (hw : e.state.waits = false) : f = e :=
  h.eq_of_not_held fun _ hk => absurd (hk ▸ hw) nofun

end promotes

/-! ### A line deasserted and forgotten -/

/-- The deassert, as the branches of R19. -/
theorem deassert_eq (i : EntryIdx) (s : State) :
    deassert i s =
      if (s.entry i).line = false then s
      else if (s.entry i).workTrigger = .level ∧ (s.entry i).state.waits = true then
        (withdraw i (s.modEntry i fun e => { e with line := false })).modEntry i fun e => { e with state := .idle, pendingCount := 0 }
      else s.modEntry i fun e => { e with line := false } := by
  cases hl : (s.entry i).line with
  | false => exact deassert_low hl
  | true =>
    by_cases hc : (s.entry i).workTrigger = .level ∧ (s.entry i).state.waits = true
    · rw [if_neg nofun, if_pos hc]
      exact deassert_level_waits_eq hl hc.1 hc.2
    · rw [if_neg nofun, if_neg hc]
      refine deassert_level_alone hl ?_
      cases ht : (s.entry i).workTrigger with
      | edge => exact .inl rfl
      | level => exact .inr (by simpa [ht] using hc)

/-- An entry as node absence leaves it (R103). -/
def Entry.absent (e : Entry) : Entry :=
  { (if e.line = true ∧ e.workTrigger = .level ∧ e.state.waits = true then { e with state := .idle, pendingCount := 0 } else e) with
    line := false, raiseCount := none }

theorem absentLine_entry_same {s : State} (h : PlacementSound s) (i : EntryIdx) :
    (absentLine i s).entry i = (s.entry i).absent := by
  rw [absentLine, entry_modEntry_same, Entry.absent]
  cases hl : (s.entry i).line with
  | false =>
    rw [deassert_low hl, if_neg (fun c => Bool.false_ne_true c.1), ← hl]
  | true =>
    by_cases hc : (s.entry i).workTrigger = .level ∧ (s.entry i).state.waits = true
    · rw [deassert_level_waits hl hc.1 hc.2, (withdraw_then_idle (h.setLine i false) i).2.1, setLine_entry, if_pos rfl,
        if_pos ⟨rfl, hc⟩]
    · rw [deassert_eq, if_neg (by simp [hl]), if_neg hc, entry_modEntry_same, if_neg fun c => hc c.2]

/-- Node absence at one entry: the entry falls, and to the others it does what promotion does (R103). -/
theorem absentLine_entries {s : State} (h : PlacementSound s) (i : EntryIdx) :
    PlacementSound (absentLine i s) ∧ (absentLine i s).entry i = (s.entry i).absent ∧
    ∀ j, j ≠ i → EntryPromotes j (s.entry j) ((absentLine i s).entry j) := by
  refine ⟨(absentLine_deeds i s).placement h, absentLine_entry_same h i, fun j hj => ?_⟩
  rw [absentLine, entry_modEntry_ne _ hj, deassert_eq]
  split
  · exact .refl _ _
  · have hlow : (s.modEntry i fun e => { e with line := false }).entry j = s.entry j := entry_modEntry_ne s hj _
    split
    · rw [entry_modEntry_ne _ hj, ← hlow]
      exact withdraw_entry_ne (h.setLine i false) hj
    · exact .of_eq hlow

theorem absentLine_frame (i : EntryIdx) (s : State) : DeliveryFrame s (absentLine i s) := (Takes.deassert i s).frame.trans rfl

theorem absentLine_notices (i : EntryIdx) (s : State) : FaultsOnly s (absentLine i s) := by
  have hd : FaultsOnly s (deassert i s) := by
    rw [deassert_eq]
    split
    · exact .refl s
    · have hlow : FaultsOnly s (s.modEntry i fun e => { e with line := false }) := .of_notice fun _ => rfl
      split
      · exact (hlow.trans (.withdraw i _)).trans (.of_notice fun _ => rfl)
      · exact hlow
  exact hd.trans (.of_notice fun _ => rfl)

/-- What node absence states of an entry of the node (R103): the line and its count are gone, a LEVEL condition that waited is over, an EDGE
entry keeps its pending count, and a binding stays. -/
def EntryFalls (e f : Entry) : Prop :=
  f.line = false ∧ f.raiseCount = none ∧
  (e.workTrigger = .level → e.line = true → e.state.waits = true → f.state = .idle ∧ f.pendingCount = 0) ∧
  (e.workTrigger = .edge → f.pendingCount = e.pendingCount) ∧ ∀ k v, e.state = .outstanding k v → f.state = .outstanding k v

theorem Entry.absent_falls (e : Entry) : EntryFalls e e.absent := by
  refine ⟨rfl, rfl, fun ht hl hw => ?_, fun ht => ?_, fun k v hs => ?_⟩ <;> unfold Entry.absent
  · rw [if_pos ⟨hl, ht, hw⟩]
    exact ⟨rfl, rfl⟩
  · rw [if_neg (by simp [ht])]
  · rw [if_neg fun c => absurd (hs ▸ c.2.2) nofun]
    exact hs

theorem EntryFalls.after {i : EntryIdx} {e f g : Entry} (h : EntryPromotes i e f) (h' : EntryFalls f g) : EntryFalls e g := by
  obtain ⟨hl, -, hn, ht, hw⟩ := h.kept
  obtain ⟨h1, h2, h3, h4, h5⟩ := h'
  rw [hl, ht, hw] at h3
  rw [hn, ht] at h4
  exact ⟨h1, h2, h3, h4, fun k v hs => h5 k v (by rw [h.eq_of_not_waits (by rw [hs]; rfl)]; exact hs)⟩

theorem EntryFalls.before {i : EntryIdx} {e f g : Entry} (h : EntryFalls e f) (h' : EntryPromotes i f g) : EntryFalls e g := by
  obtain ⟨h1, h2, h3, h4, h5⟩ := h
  obtain ⟨hl, hr, hn, -, -⟩ := h'.kept
  refine ⟨hl.trans h1, hr.trans h2, fun a b c => ?_, fun a => hn.trans (h4 a), fun k v hs => ?_⟩
  · obtain ⟨hi, hz⟩ := h3 a b c
    exact ⟨by rw [h'.eq_of_not_waits (by rw [hi]; rfl)]; exact hi, hn.trans hz⟩
  · have hf := h5 k v hs
    rw [h'.eq_of_not_waits (by rw [hf]; rfl)]
    exact hf

/-! ### The node -/

/-- The presence record and the send list at node absence (R102), before the node's entries. -/
def absentNode (p : Port) (n : Node) (s : State) : State :=
  (s.modNode p n fun _ => { presence := .absent, quietTimer := none, probeWaiting := false }).modPort p
    fun r => { r with sendList := r.sendList.filter (fun f => decide (f ≠ .probe n)) }

theorem nodeAbsence_eq (p : Port) (n : Node) (s : State) :
    nodeAbsence p n s = raiseNotice .nodeLost (p.val * 64 + n.val)
      (absentLine (entryIndex p n 1) (absentLine (entryIndex p n 0) (absentNode p n s))) := rfl

/-- Node absence at the Steering Table (R102, R103): both entries of the node fall, and the others keep what R102 does not name. -/
theorem nodeAbsence_entries {s : State} (h : PlacementSound s) (p : Port) (n : Node) :
    (∀ l, EntryFalls (s.entry (entryIndex p n l)) ((nodeAbsence p n s).entry (entryIndex p n l))) ∧
    ∀ i, (∀ l, i ≠ entryIndex p n l) → EntryPromotes i (s.entry i) ((nodeAbsence p n s).entry i) := by
  have hne : entryIndex p n 0 ≠ entryIndex p n 1 := fun e => absurd (entryIndex_inj.mp e).2.2 (by decide)
  obtain ⟨h0, he0, hp0⟩ := absentLine_entries (s := absentNode p n s) (h.congr (fun _ => rfl) (fun _ => rfl) fun _ => rfl) (entryIndex p n 0)
  obtain ⟨-, he1, hp1⟩ := absentLine_entries h0 (entryIndex p n 1)
  simp only [nodeAbsence_eq, raiseNotice_entry]
  refine ⟨fun l => ?_, fun i hi => (hp0 i (hi 0)).trans (hp1 i (hi 1))⟩
  fin_cases l
  · have hf := (s.entry (entryIndex p n 0)).absent_falls
    exact hf.before (he0 ▸ hp1 _ hne)
  · exact .after (hp0 _ hne.symm) (he1 ▸ Entry.absent_falls _)

section expiry
variable {s : State} {p : Port} {n : Node} (hq : (s.node p n).quietTimer.isSome = true)
include hq

theorem quietTimerExpiry_present (h : (s.node p n).presence = .present) :
    exec (.quietTimerExpiry p n) s = .next (settle none s (doubt p n s)) := by
  change execQuietTimerExpiry p n s = _
  rw [execQuietTimerExpiry, event_next, if_pos hq, h]

theorem quietTimerExpiry_doubted (h : (s.node p n).presence = .doubted) :
    exec (.quietTimerExpiry p n) s = .next (settle none s (nodeAbsence p n s)) := by
  change execQuietTimerExpiry p n s = _
  rw [execQuietTimerExpiry, event_next, if_pos hq, h]

end expiry

/-- Settles O19: the doubt, node absence whole, and what it leaves of the node's entries and of the others (R101 to R103). -/
theorem quietTimerDoubtsAndThenDeclaresAbsent : Obligations.QuietTimerDoubtsAndThenDeclaresAbsent := by
  intro s p n hq
  refine ⟨fun hpr => ⟨_, quietTimerExpiry_present hq hpr, settle_still ..⟩, fun u => ?_,
    fun hpr => ⟨_, quietTimerExpiry_doubted hq hpr, settle_still ..⟩,
    fun hpr hpl => ⟨_, quietTimerExpiry_doubted hq hpr, ?_⟩⟩
  · have hl : ∀ l v, absentLine (entryIndex p n l) v = _ := fun l v => by rw [absentLine, deassert_eq]
    rw [nodeAbsence_eq, hl, hl]
    rfl
  · obtain ⟨hfall, hothers⟩ := nodeAbsence_entries hpl p n
    have hframe : DeliveryFrame (absentNode p n s) (nodeAbsence p n s) :=
      ((absentLine_frame _ _).trans (absentLine_frame _ _)).trans (Delivers.raiseNotice ..).frame
    have hnote := (absentLine_notices (entryIndex p n 0) (absentNode p n s)).trans (absentLine_notices (entryIndex p n 1) _)
    simp only [settle_nodes, settle_ports, settle_notice, settle_entry, settle_groups, settle_staging, settle_owner, settle_sweep,
      settle_manager]
    refine ⟨by rw [hframe]; rfl, by rw [hframe]; rfl, ?_, fun l => ?_, fun i hi => ?_, by rw [hframe]; rfl, by rw [hframe]; rfl,
      by rw [hframe]; rfl, by rw [hframe]; rfl, by rw [hframe]; rfl⟩
    · rw [nodeAbsence_eq, raiseNotice_notice, if_pos rfl, raiseNotice_notice, if_pos rfl, hnote.1 .nodeLost nofun]
      rfl
    · exact hfall l
    · obtain ⟨h1, h2, h3, -, -⟩ := (hothers i hi).kept
      exact ⟨h1, h2, h3⟩

end Sys2Proof.Machine

/-!
# Releases: RETIRE and lane loss

The release of several bindings as the manual states it, with the line levels of the state before (R90), and its two uses: a RETIRE (R88 to
R92) and the loss of a lane (R122 to R126).
-/

namespace Sys2Proof.Machine

-- One theorem is elaborated after the other: many at once need too many threads.
set_option Elab.async false

/-! ### The release of several bindings -/

/-- The settlement of unbound entries (R89), each by the line level that it has: of a deasserted line there is nothing left to do. -/
theorem settleAll_eq (line : EntryIdx → Bool) {is : List EntryIdx} (hn : is.Nodup) {s : State}
    (h : ∀ i ∈ is, { s.entry i with state := .idle, pendingCount := 0 } = s.entry i ∧ (s.entry i).line = line i) :
    is.foldl (fun t i => settleRelease i t) s =
      is.foldl (fun t i => if line i = true then offer i (t.modEntry i fun e => { e with pendingCount := 1 }) else t) s := by
  induction is generalizing s with
  | nil => rfl
  | cons i rest ih =>
    obtain ⟨hi, hn⟩ := List.nodup_cons.mp hn
    obtain ⟨hidle, hline⟩ := h i List.mem_cons_self
    have hs : settleRelease i s = if line i = true then offer i (s.modEntry i fun e => { e with pendingCount := 1 }) else s := by
      unfold settleRelease
      rw [hline]
      refine if_congr Iff.rfl rfl ?_
      rw [setDelivery_setPending]
      exact modEntry_self hidle
    rw [List.foldl_cons, List.foldl_cons, ← hs]
    refine ih hn fun j hj => ?_
    rw [settleRelease_entry_ne _ (by rintro rfl; exact hi hj)]
    exact h j (List.mem_cons_of_mem _ hj)

/-- The release of several bindings: all removed, and then each entry whose line is asserted offered with pending count 1 (R90). -/
theorem releaseAll_eq (line : EntryIdx → Bool) {is : List EntryIdx} (hn : is.Nodup) {s : State} (h : ∀ i ∈ is, (s.entry i).line = line i) :
    releaseAll is s =
      is.foldl (fun t i => if line i = true then offer i (t.modEntry i fun e => { e with pendingCount := 1 }) else t)
        (is.foldl (fun t i => t.modEntry i fun e => { e with state := .idle, pendingCount := 0 }) s) := by
  refine settleAll_eq line hn fun i hi => ?_
  rw [unbindAll_entry, if_pos hi]
  exact ⟨rfl, h i hi⟩

/-- The release outcome (R89), in any state. -/
theorem settleRelease_entry (s : State) (i : EntryIdx) :
    ((s.entry i).line = false → (settleRelease i s).entry i = { s.entry i with state := .idle, pendingCount := 0 }) ∧
    ((s.entry i).line = true → ((settleRelease i s).entry i).state.waits = true ∧ ((settleRelease i s).entry i).pendingCount = 1) := by
  unfold settleRelease
  refine ⟨fun hl => ?_, fun hl => ?_⟩
  · rw [if_neg (by simp [hl]), setDelivery_entry, if_pos rfl, setPending_entry, if_pos rfl]
  · obtain ⟨d, q, hd, he, -⟩ := offer_entry (setPending i 1 s) i
    rw [if_pos hl, he, setPending_entry, if_pos rfl]
    exact ⟨hd.waits, rfl⟩

/-- The release of several bindings at each entry, in any state (R90). -/
theorem releaseAll_entry (s : State) {is : List EntryIdx} (hn : is.Nodup) :
    (∀ i, i ∉ is → (releaseAll is s).entry i = s.entry i) ∧
    ∀ i ∈ is,
      ((s.entry i).line = false → ((releaseAll is s).entry i).state = .idle ∧ ((releaseAll is s).entry i).pendingCount = 0) ∧
      ((s.entry i).line = true → ((releaseAll is s).entry i).state.waits = true ∧ ((releaseAll is s).entry i).pendingCount = 1) := by
  have hre := unbindAll_entry is s
  obtain ⟨-, hne, heq⟩ := foldl_entry (Inv := fun _ => True) (f := settleRelease) (s := is.foldl (fun t i => unbind i t) s) is hn
    (fun _ _ _ _ _ => trivial) (fun _ _ u _ _ _ hj => settleRelease_entry_ne u hj) _ trivial fun _ => rfl
  refine ⟨fun i hi => (hne i hi).trans (by rw [hre, if_neg hi]), fun i hi => ?_⟩
  obtain ⟨u, -, hu, hf⟩ := heq i hi
  have hr := settleRelease_entry u i
  rw [← hf, hu, hre, if_pos hi] at hr
  exact ⟨fun hl => by rw [releaseAll, hr.1 hl]; exact ⟨rfl, rfl⟩, hr.2⟩

/-! ### RETIRE -/

/-- What a host frame may change of its lane before it is taken by kind (R130, R132, R133). -/
def LaneHears (l m : Lane) : Prop :=
  m = { l with
    state := m.state, deepTimer := m.deepTimer, parkReplyTimer := m.parkReplyTimer, wakeTimer := m.wakeTimer
    wakePending := m.wakePending, deepParkDue := m.deepParkDue, bridgeWake := m.bridgeWake
    counters := { l.counters with parksDeclined := m.counters.parksDeclined } }

theorem frameWakes_lane (k : LaneId) (s : State) (j : LaneId) : LaneHears (s.lane j) ((frameWakes k s).lane j) := by
  have one : ∀ f : Lane → Lane, LaneHears (s.lane k) (f (s.lane k)) → LaneHears (s.lane j) ((s.modLane k f).lane j) := fun f h => by
    rw [lane_modLane]
    split
    · next e => rw [e]; exact h
    · rfl
  unfold frameWakes
  split
  · dsimp only
    split
    · rw [countDeclined, State.count, modLane_modLane]
      exact one _ rfl
    · exact one _ rfl
  · exact one _ rfl
  · exact one _ rfl
  · exact one _ rfl
  all_goals rfl

theorem frameWakes_frame (k : LaneId) (s : State) : frameWakes k s = { s with lanes := (frameWakes k s).lanes } := by
  unfold frameWakes
  split
  · dsimp only
    split <;> rfl
  all_goals rfl

theorem frameWakes_entry (k : LaneId) (s : State) (i : EntryIdx) : (frameWakes k s).entry i = s.entry i := (Quiet.frameWakes k s).entry i

theorem matchingSet_mem (s : State) (k : LaneId) (v : Byte) (i : EntryIdx) :
    i ∈ matchingSet s k v ↔ (s.entry i).state = .outstanding k v := by
  rw [matchingSet, rowsWhere_entries, decide_eq_true_eq]

/-- A RETIRE under a vector that some entry is bound under (R88, R90). -/
theorem takeRetire_matches {s : State} {k : LaneId} {v : Byte} {i : EntryIdx} (h : (s.entry i).state = .outstanding k v) :
    takeRetire k v s = releaseAll (matchingSet s k v) (countRetire s k) := by
  have hm := (matchingSet_mem s k v i).mpr h
  unfold takeRetire
  dsimp only
  split
  · next e => rw [e] at hm; cases hm
  · rfl

/-- A stray RETIRE (R91). -/
theorem takeRetire_stray {s : State} {k : LaneId} {v : Byte} (h : ∀ i, (s.entry i).state ≠ .outstanding k v) :
    takeRetire k v s = raiseNotice .strayRetire (k.val * 256 + v.toNat) (countStray (countRetire s k) k) := by
  have hm : matchingSet s k v = [] := List.eq_nil_iff_forall_not_mem.mpr fun i hi => h i ((matchingSet_mem s k v i).mp hi)
  unfold takeRetire
  dsimp only
  rw [hm]

theorem retire_next {s : State} {k : LaneId} (hl : (s.lane k).link = true) (hlive : s.live k = true) (v : Byte) :
    exec (.retire k v) s = .next (settle (received k s) s (takeRetire k v (frameWakes k s))) := by
  change execRetire k v s = _
  rw [execRetire, event_next, hostFrame, hl, hlive, Bool.true_and, if_pos rfl]

/-- Settles O26: the RETIRE that some binding matches, and the stray one (R88 to R92). -/
theorem retireReleasesEveryMatch : Obligations.RetireReleasesEveryMatch := by
  intro s k v hl hlive
  have hnext := retire_next hl hlive v
  have hwe : ∀ i, (frameWakes k s).entry i = s.entry i := frameWakes_entry k s
  have hwl : ∀ j, LaneHears (s.lane j) ((frameWakes k s).lane j) := frameWakes_lane k s
  have hw : frameWakes k s = { s with lanes := (frameWakes k s).lanes } := frameWakes_frame k s
  generalize frameWakes k s = w at hnext hwe hwl hw ⊢
  refine ⟨fun ⟨i₀, h₀⟩ => ?_, fun hn => ⟨_, hnext, ?_⟩⟩
  · have hmem : ∀ i, i ∈ matchingSet w k v ↔ (s.entry i).state = .outstanding k v := fun i => by rw [matchingSet_mem, hwe]
    have hnd : (matchingSet w k v).Nodup := rowsWhere_nodup _ _
    have htake : takeRetire k v w = releaseAll (matchingSet w k v) (countRetire w k) := takeRetire_matches (by rw [hwe]; exact h₀)
    have hline : ∀ i ∈ matchingSet w k v, ((countRetire w k).entry i).line = (s.entry i).line := fun i _ => by rw [← hwe]; rfl
    obtain ⟨hother, hbound⟩ := releaseAll_entry (countRetire w k) hnd
    have hrel := Releases.releaseAll (matchingSet w k v) (countRetire w k)
    have hcount : DeliveryFrame s (countRetire w k) := by rw [hw]; rfl
    have hframe : DeliveryFrame s (takeRetire k v w) := htake ▸ hcount.trans hrel.frame
    have hlane : ∀ j, ((takeRetire k v w).lane j).availableCredit = (s.lane j).availableCredit ∧
        ((takeRetire k v w).lane j).creditLimit = (s.lane j).creditLimit ∧
        ((takeRetire k v w).lane j).counters = ((countRetire w k).lane j).counters := fun j => by
      obtain ⟨hd, -⟩ := hrel.2.2.2.1 j
      have hj := hwl j
      have hc : ((countRetire w k).lane j).availableCredit = (w.lane j).availableCredit ∧
          ((countRetire w k).lane j).creditLimit = (w.lane j).creditLimit := by
        rw [countRetire, State.count, lane_modLane]
        split
        · next e => rw [e]; exact ⟨rfl, rfl⟩
        · exact ⟨rfl, rfl⟩
      rw [htake, hd]
      exact ⟨hc.1.trans (by rw [hj]), hc.2.trans (by rw [hj]), rfl⟩
    refine ⟨_, matchingSet w k v, hnext, rowsWhere_ascending _ _, hmem, ?_, ?_, fun j => ?_, fun i hi => ?_,
      fun i hi => ?_, ?_, ?_, ?_, ?_, ?_⟩
    · rw [settle_still, htake, releaseAll_eq (fun i => (s.entry i).line) hnd hline]
      rfl
    · have hk := hwl k
      rw [settle_lane, settleIdle_counters, (hlane k).2.2, countRetire, State.count, lane_modLane_same]
      dsimp only
      rw [hk]
    · rw [settle_lane, settleIdle_availableCredit, settleIdle_creditLimit]
      exact ⟨(hlane j).1, (hlane j).2.1⟩
    · have := hbound i ((hmem i).mpr hi)
      rw [settle_entry, htake, ← hline i ((hmem i).mpr hi)]
      exact this
    · rw [settle_entry, htake, hother i fun hm => hi ((hmem i).mp hm), ← hwe]
      rfl
    · rw [settle_ports, hframe]
    · rw [settle_nodes, hframe]
    · rw [settle_groups, hframe]
    · rw [settle_staging, hframe]
    · rw [settle_sweep, hframe]
  · rw [settle_still, takeRetire_stray (by simpa only [hwe] using hn), countStray, countRetire, State.count, State.count,
      modLane_modLane]

end Sys2Proof.Machine

/-!
# Lane loss

The loss of a lane written out (R122 to R126), and where it leaves each entry.
-/

namespace Sys2Proof.Machine

-- One theorem is elaborated after the other: many at once need too many threads.
set_option Elab.async false

/-- The rows that satisfy `p` are those of another table whose rows satisfy it at the same places. -/
theorem rowsWhere_congr {α : Type} {n : Nat} {p : α → Bool} {v w : Vector α n} (h : ∀ i : Fin n, p v[i.val] = p w[i.val]) :
    rowsWhere p v = rowsWhere p w :=
  (rowsWhere_ascending p v).eq_of_mem_iff (rowsWhere_ascending p w) fun i => by rw [mem_rowsWhere, mem_rowsWhere, h]

section loss
variable {s : State} (k : LaneId) (cause : LossCause)

/-- The entries bound to lane `k`, in ascending index (R125). -/
def boundSet (k : LaneId) (s : State) : List EntryIdx := rowsWhere (Entry.boundTo k) s.entries

theorem boundSet_mem (s : State) (i : EntryIdx) : i ∈ boundSet k s ↔ ∃ v, (s.entry i).state = .outstanding k v := by
  rw [boundSet, rowsWhere_entries, boundTo_iff]

theorem boundSet_nodup (s : State) : (boundSet k s).Nodup := rowsWhere_nodup _ _

/-- The state once the lane is lost and its work is moved (R123, R124). -/
def workMoved (k : LaneId) (cause : LossCause) (s : State) : State := lossOfWork k (lossOfLane k cause s)

theorem lossOfLane_queue (j : LaneId) : ((lossOfLane k cause s).lane j).queue = (s.lane j).queue := ((Quiet.lossOfLane k cause s).2 j).1

theorem lossOfLane_held (j : LaneId) : ((lossOfLane k cause s).lane j).held = (s.lane j).held := ((Quiet.lossOfLane k cause s).2 j).2

/-- A lane live once `k` is lost is another lane, and was live before. -/
theorem lossOfLane_live {j : LaneId} (h : (lossOfLane k cause s).live j = true) : j ≠ k ∧ s.live j = true := by
  have hj : j ≠ k := by
    rintro rfl
    rw [lossOfLane_not_live] at h
    cases h
  rw [lossOfLane, State.live, lane_modLane_ne s hj] at h
  exact ⟨hj, h⟩

/-- Where an entry that has to leave lane `k` may go (R124, R125). -/
def Leaves (s : State) (k : LaneId) (d : DeliveryState) : Prop :=
  d = .latched ∨ d = .stranded ∨ ∃ j, j ≠ k ∧ s.live j = true ∧ (d = .queued j ∨ d = .held j)

theorem OfferedState.leaves {k : LaneId} {cause : LossCause} {d : DeliveryState} (h : OfferedState (lossOfLane k cause s) d) : Leaves s k d := by
  rcases h with h | h | ⟨j, hj, h⟩
  · exact .inl h
  · exact .inr (.inl h)
  · obtain ⟨hne, hl⟩ := lossOfLane_live k cause hj
    exact .inr (.inr ⟨j, hne, hl, h⟩)

/-- The work of the lane after the first two parts of the loss: each entry that waited there is offered, and no other changes (R124). -/
theorem workMoved_entries (h : PlacementSound s) :
    Between (lossOfLane k cause s) (workMoved k cause s) ∧
    ∀ j, ((s.entry j).state = .queued k ∨ (s.entry j).state = .held k →
        EntryOffered (lossOfLane k cause s) j (s.entry j) ((workMoved k cause s).entry j)) ∧
      ((s.entry j).state ≠ .queued k → (s.entry j).state ≠ .held k → (workMoved k cause s).entry j = s.entry j) := by
  have hl : PlacementSound (lossOfLane k cause s) :=
    h.congr (fun _ => rfl) (fun j => lossOfLane_queue k cause j) (fun j => lossOfLane_held k cause j)
  obtain ⟨hp, he⟩ := lossOfWork_entries hl (lossOfLane_not_live k cause s)
  exact ⟨⟨hp, (Delivers.lossOfWork k _).live⟩, he⟩

/-- The second part of a loss leaves the bindings of the lane as they were. -/
theorem workMoved_bound (h : PlacementSound s) :
    boundSet k (workMoved k cause s) = boundSet k s ∧ ∀ i ∈ boundSet k s, (workMoved k cause s).entry i = s.entry i := by
  obtain ⟨-, he⟩ := workMoved_entries k cause h
  refine ⟨rowsWhere_congr fun i => ?_, fun i hi => ?_⟩
  · change ((workMoved k cause s).entry i).boundTo k = (s.entry i).boundTo k
    by_cases hw : (s.entry i).state = .queued k ∨ (s.entry i).state = .held k
    · have hf := ((he i).1 hw).waits
      have none : ∀ e : Entry, e.state.waits = true → e.boundTo k = false := fun e h => by
        rw [Bool.eq_false_iff, ne_eq, boundTo_iff]
        rintro ⟨v, hv⟩
        rw [hv] at h
        cases h
      rw [none _ hf, none _ (by rcases hw with e | e <;> rw [e] <;> rfl)]
    · rw [not_or] at hw
      rw [(he i).2 hw.1 hw.2]
  · obtain ⟨v, hv⟩ := (boundSet_mem k s i).mp hi
    exact (he i).2 (by rw [hv]; nofun) (by rw [hv]; nofun)

theorem lossOfBindings_eq (s : State) : lossOfBindings k s = releaseAll (boundSet k s) s := rfl

/-- The fourth part, as one equation (R126). -/
theorem lossOfManagement_eq (s : State) :
    lossOfManagement k s =
      if s.owner = some k then
        clearStaging { s.modLane k (fun l => { l with control := [], slot := none, readPos := 0 }) with
          restart := if s.restart = .awaitingDone k then .due else s.restart }
      else
        { s.modLane k (fun l => { l with control := [], slot := none, readPos := 0 }) with
          restart := if s.restart = .awaitingDone k then .due else s.restart } := by
  unfold lossOfManagement
  dsimp only
  by_cases h : s.restart = .awaitingDone k
  · rw [if_pos h, if_pos h]
  · rw [if_neg h, if_neg h]
    rfl

/-- A lane loss before its notice: what becomes of the entries is settled (R123 to R126). -/
def laneLost (k : LaneId) (cause : LossCause) (s : State) : State := lossOfManagement k (lossOfBindings k (workMoved k cause s))

theorem laneLoss_cases (s : State) :
    laneLoss k cause s = match cause with
      | .linkLost => raiseNotice .laneDown (k.val * 16 + 1) (laneLost k .linkLost s)
      | .wakeTimeout => raiseNotice .laneDown (k.val * 16 + 3) (laneLost k .wakeTimeout s)
      | .restarted => raiseNotice .laneDown (k.val * 16 + 4) (laneLost k .restarted s)
      | .closed => laneLost k .closed s
      | .disabled => laneLost k .disabled s := by
  cases cause <;> simp only [laneLoss, lossCode, laneLost, workMoved]

theorem laneLoss_entry (s : State) (i : EntryIdx) : (laneLoss k cause s).entry i = (lossOfBindings k (workMoved k cause s)).entry i := by
  have h : (laneLost k cause s).entry i = (lossOfBindings k (workMoved k cause s)).entry i := (Quiet.lossOfManagement k _).entry i
  rw [← h, laneLoss_cases]
  cases cause with
  | linkLost | wakeTimeout | restarted => exact raiseNotice_entry ..
  | closed | disabled => rfl

/-- Where a lane loss leaves each entry (R124, R125). -/
theorem laneLoss_moves (h : PlacementSound s) (i : EntryIdx) :
    ((s.entry i).state = .queued k ∨ (s.entry i).state = .held k →
      ((laneLoss k cause s).entry i).pendingCount = (s.entry i).pendingCount ∧ Leaves s k ((laneLoss k cause s).entry i).state) ∧
    (∀ v, (s.entry i).state = .outstanding k v →
      ((s.entry i).line = false → ((laneLoss k cause s).entry i).state = .idle ∧ ((laneLoss k cause s).entry i).pendingCount = 0) ∧
      ((s.entry i).line = true → ((laneLoss k cause s).entry i).pendingCount = 1 ∧ Leaves s k ((laneLoss k cause s).entry i).state)) ∧
    ((s.entry i).state ≠ .queued k → (s.entry i).state ≠ .held k → (∀ v, (s.entry i).state ≠ .outstanding k v) →
      (laneLoss k cause s).entry i = s.entry i) := by
  obtain ⟨hb, he⟩ := workMoved_entries k cause h
  obtain ⟨hset, hsame⟩ := workMoved_bound k cause h
  have hmem := boundSet_mem k s i
  obtain ⟨-, hne, hrel⟩ := releaseAll_entries hb.1 (boundSet_nodup k s) fun i hi => by
    obtain ⟨v, hv⟩ := (boundSet_mem k s i).mp hi
    rw [hsame i hi, hv]
    rfl
  rw [laneLoss_entry, lossOfBindings_eq, hset]
  refine ⟨fun hw => ?_, fun v hv => ?_, fun h1 h2 h3 => ?_⟩
  · have hn : i ∉ boundSet k s := fun hi => by
      obtain ⟨v, hv⟩ := hmem.mp hi
      rcases hw with e | e <;> rw [hv] at e <;> cases e
    obtain ⟨d, q, hd, hf, -⟩ := (he i).1 hw
    rw [hne i hn, hf]
    exact ⟨rfl, hd.leaves⟩
  · have hi := hmem.mpr ⟨v, hv⟩
    have hr := hrel i hi
    rw [hsame i hi] at hr
    refine ⟨fun hl => by rw [hr.1 hl]; exact ⟨rfl, rfl⟩, fun hl => ?_⟩
    obtain ⟨d, q, hd, hf, -⟩ := hr.2 hl
    rw [hf]
    exact ⟨rfl, (hb.offered hd).leaves⟩
  · rw [hne i fun hi => by obtain ⟨v, hv⟩ := hmem.mp hi; exact h3 v hv]
    exact (he i).2 h1 h2

/-- The frame of the first three parts of a loss: the restart phase and the owner of the staging list are those of before. -/
theorem lossOfBindings_frame (s : State) : DeliveryFrame s (lossOfBindings k (workMoved k cause s)) :=
  (DeliveryFrame.trans (t := lossOfLane k cause s) rfl (Delivers.lossOfWork k _).frame).trans (Releases.releaseAll _ _).frame

end loss

/-! ### The commands that lose a lane and do nothing else -/

section commands
variable {s : State} {k : LaneId}

theorem laneLinkLost_next (hlive : s.live k = true) (hl : (s.lane k).link = true) :
    exec (.laneLinkLost k) s = .next (settle none s (laneLoss k .linkLost s)) := by
  change execLaneLinkLost k s = _
  rw [execLaneLinkLost, event_next, if_pos hl, if_pos hlive]

theorem goodbye_next (hlive : s.live k = true) (hl : (s.lane k).link = true) :
    exec (.goodbye k) s = .next (settle (received k s) s (laneLoss k .closed s)) := by
  change execGoodbye k s = _
  rw [execGoodbye, event_next, hl, hlive, Bool.true_and, if_pos rfl]

theorem wakeTimerExpiry_next (ht : (s.lane k).wakeTimer.isSome = true) (hs : (s.lane k).state = .waking) :
    exec (.wakeTimerExpiry k) s = .next (settle none s (laneLoss k .wakeTimeout s)) := by
  change execWakeTimerExpiry k s = _
  rw [execWakeTimerExpiry, event_next, if_pos ⟨ht, hs⟩]

end commands

/-- Settles O25: the lane loss written out for each cause, and where it leaves each entry (R122 to R126). -/
theorem laneLossMovesTheLanesWork : Obligations.LaneLossMovesTheLanesWork := by
  intro s k hlive hpl moves
  have hmoves : ∀ cause t, (∀ i, t.entry i = (laneLoss k cause s).entry i) → moves t := fun cause t ht i => by
    rw [ht i]
    exact laneLoss_moves k cause hpl i
  refine ⟨?_, fun hl => ⟨_, laneLinkLost_next hlive hl, settle_still ..⟩, fun hl => ⟨_, goodbye_next hlive hl, settle_still ..⟩,
    fun ht hs => ⟨_, wakeTimerExpiry_next ht hs, settle_still ..⟩, boundSet k s, rowsWhere_ascending _ _, boundSet_mem k s, ?_⟩
  · rintro c code (⟨rfl, hl, -⟩ | ⟨rfl, hl, -⟩ | ⟨rfl, ht, hs, -⟩)
    · exact ⟨_, laneLinkLost_next hlive hl, hmoves .linkLost _ fun _ => settle_entry ..⟩
    · exact ⟨_, goodbye_next hlive hl, hmoves .closed _ fun _ => settle_entry ..⟩
    · exact ⟨_, wakeTimerExpiry_next ht hs, hmoves .wakeTimeout _ fun _ => settle_entry ..⟩
  · intro cause lost moved freed settled cleared unstaged
    have hmoved : workMoved k cause s = moved := by
      have hq : ((lossOfLane k cause s).lane k).queue.map Item.entry ++ ((lossOfLane k cause s).lane k).held =
          (s.lane k).queue.map Item.entry ++ (s.lane k).held := by rw [lossOfLane_queue, lossOfLane_held]
      rw [workMoved, lossOfWork, hq]
      rfl
    obtain ⟨hset, hsame⟩ := workMoved_bound k cause hpl
    have hsettled : lossOfBindings k (workMoved k cause s) = settled := by
      rw [lossOfBindings_eq, hset, releaseAll_eq (fun i => (s.entry i).line) (boundSet_nodup k s) (fun i hi => by rw [hsame i hi]),
        hmoved]
    have hframe : DeliveryFrame s settled := hsettled ▸ lossOfBindings_frame k cause s
    have hlost : laneLost k cause s = unstaged := by
      have ho : settled.owner = s.owner := by rw [hframe]
      have hr : settled.restart = s.restart := by rw [hframe]
      rw [laneLost, hsettled, lossOfManagement_eq, ho, hr]
      rfl
    refine ⟨hmoves cause _ fun _ => rfl, ?_⟩
    rw [laneLoss_cases, ← hlost]
    cases cause <;> rfl

end Sys2Proof.Machine

/-!
# The reads of management

Each read answers with the values of what it reads (R25, R47, R50, R80, R109, R139, R153, R154, R170, R185, R193).
-/

namespace Sys2Proof.Machine

-- One theorem is elaborated after the other: many at once need too many threads.
set_option Elab.async false

/-! ### Codes, operands and counts -/

/-- Values that are coded by their place in a table. -/
theorem code_of_place {α : Type} {l : List α} {code : α → Byte} (h : l.map code = (List.range l.length).map oneByte) (n : Nat) (x : α)
    (hx : l[n]? = some x) : code x = oneByte n := by
  obtain ⟨hn, -⟩ := List.getElem?_eq_some_iff.mp hx
  have hl : (l.map code)[n]? = some (code x) := by rw [List.getElem?_map, hx]; rfl
  rw [h, List.getElem?_map, List.getElem?_range hn] at hl
  exact (Option.some.inj hl).symm

/-- The milliseconds left on a running timer are its microseconds rounded up (R109). -/
theorem remainingMs_some {t : Nat} (ht : 1 ≤ t) (m : Nat) : remainingMs (some t) = m ↔ t ≤ m * 1000 ∧ m * 1000 < t + 1000 := by
  simp only [remainingMs]
  omega

theorem length_rowsWhere {α : Type} {n : Nat} (p : α → Bool) (v : Vector α n) : (rowsWhere p v).length = v.toList.countP p := by
  have hsome : ∀ r : Fin n × α, (if p r.2 = true then some r.1 else none).isSome = p r.2 := fun r => by cases p r.2 <;> rfl
  have hsnd : ((List.finRange n).zip v.toList).map Prod.snd = v.toList := List.map_snd_zip (by simp)
  rw [rowsWhere, List.length_filterMap_eq_countP]
  simp only [hsome]
  rw [← hsnd, List.countP_map]
  simp [hsnd, Function.comp_def]

theorem below_oneByte {n : Nat} (hn : n ≤ 256) (a : Fin n) : below n (oneByte a.val) = some a := by
  have h : (oneByte a.val).toNat = a.val := by rw [oneByte, BitVec.toNat_ofNat]; omega
  simp [below, h]

theorem firstBelow_oneByte {n : Nat} (hn : n ≤ 256) (a : Fin n) (rest : List Byte) : firstBelow n (oneByte a.val :: rest) = some a :=
  below_oneByte hn a

theorem portAndNode_oneByte (p : Port) (n : Node) (rest : List Byte) :
    portAndNode (oneByte p.val :: oneByte n.val :: rest) = some (p, n) := by
  simp only [portAndNode, below_oneByte (n := 4) (by omega), below_oneByte (n := 64) (by omega)]

section entryOperand
variable {hi lo : Byte} {i : EntryIdx} (h : hi.toNat * 256 + lo.toNat = i.val)
include h

theorem firstEntry_of_value (rest : List Byte) : firstEntry (hi :: lo :: rest) = some i := by
  simp [firstEntry, entryOperand, ofTwoBytes, h]

theorem twoBytes_of_value : twoBytes i.val = [hi, lo] := by
  have hlo := lo.isLt
  rw [twoBytes, ← h]
  congr 2 <;> apply BitVec.eq_of_toNat_eq <;> rw [BitVec.toNat_ofNat] <;> omega

end entryOperand

/-! ### The service of a read -/

section services
variable {s : State} {k : LaneId} {r : Request}

/-- A service that the engine takes, for an operation that answers DONE (R148, R149). -/
theorem service_still {c : Instr} {code : Nat} {write : Bool} {body : LaneId → List Byte → State → Reply}
    (hc : exec c s = event none s (serve code write body)) (h : Serves s k r code write) {reply : Reply}
    (hb : body k r.args { s with pointer := k } = reply) :
    ∃ t, exec c s = .next t ∧ t.still = (answered k r reply.outcome reply.data reply.after).still :=
  ⟨_, hc, by rw [settle_still, serve_of_serves h, hb]⟩

theorem withOperand_some {α : Type} {o : Option α} {a : α} (h : o = some a) (body : α → State → Reply) (s : State) :
    withOperand o body s = body a s := by rw [h]; rfl

end services

/-- Settles O41: the codes of the values, and the answer of each read (R154, R199). -/
theorem readsReportAndChangeNothing : Obligations.ReadsReportAndChangeNothing := by
  intro s k r done
  refine ⟨code_of_place rfl, code_of_place rfl, code_of_place rfl, ⟨rfl, rfl, rfl, rfl, rfl, rfl⟩, ⟨rfl, fun _ => rfl⟩,
    ⟨rfl, rfl, fun t m ht => remainingMs_some ht m⟩, fun j => ⟨boundSet j s, boundSet_nodup j s, boundSet_mem j s, (length_rowsWhere _ _).symm⟩,
    rfl, fun h => ?_, fun hi lo rest i h ha hv => ?_, fun rest g h ha => ?_, fun rest w j h ha => ?_, fun rest p n h ha => ?_,
    fun rest p h ha => ?_, fun h => ?_, fun h => ?_, fun h => ?_⟩
  · exact service_still (c := .identify) rfl h rfl
  · rw [← twoBytes_of_value hv]
    exact service_still (c := .readEntry) rfl h (withOperand_some (by rw [ha]; exact firstEntry_of_value hv rest) _ _)
  · exact service_still (c := .readGroup) rfl h (withOperand_some (by rw [ha]; exact firstBelow_oneByte (by omega) g rest) _ _)
  · exact service_still (c := .readLane w) rfl h (withOperand_some (by rw [ha]; exact firstBelow_oneByte (by omega) j rest) _ _)
  · have hr := service_still (c := .readNode) rfl h (withOperand_some (by rw [ha]; exact portAndNode_oneByte p n rest) _ _)
    simp only [answer, node_with_pointer] at hr
    exact hr
  · have hr := service_still (c := .readPort) rfl h (withOperand_some (by rw [ha]; exact firstBelow_oneByte (by omega) p rest) _ _)
    simp only [answer, port_with_pointer, List.flatMap_cons, List.flatMap_nil, List.append_nil, ← List.append_assoc] at hr
    exact hr
  · exact service_still (c := .readNotices) rfl h rfl
  · exact service_still (c := .readSweep) rfl h rfl
  · exact service_still (c := .readStaging) rfl h rfl

end Sys2Proof.Machine

/-!
# What a commit does to the table

The application of the records of a staging list (R174 to R178): each record on its own, the records in list order, and what they leave of every
group, entry and lane.
-/

namespace Sys2Proof.Machine

-- One theorem is elaborated after the other: many at once need too many threads.
set_option Elab.async false

/-! ### One entry record -/

section applyEntry
variable {s : State} {i : EntryIdx} (img : Image)

/-- The converted count of a written entry that waited (R177). -/
theorem convertCount_eq (old new : Trigger) (line : Bool) (n : Nat) :
    convertCount old new line n = if old = .edge ∧ new = .level then (if line = true then 1 else 0) else n := by
  cases old <;> cases new <;> rfl

theorem settlePending_eq (i : EntryIdx) (n : Nat) (s : State) :
    settlePending i n s =
      if n = 0 then s.modEntry i fun e => { e with state := .idle, pendingCount := 0 }
      else offer i (s.modEntry i fun e => { e with pendingCount := n }) := by
  rw [settlePending, setDelivery_setPending]
  rfl

/-- A written entry that was bound and becomes EDGE (R178). -/
theorem applyEntry_bound_edge_eq {k : LaneId} {v : Byte} (h : (s.entry i).state = .outstanding k v) (ht : img.trigger = .edge) :
    applyEntry i img s =
      if (s.entry i).line = true then
        offer i (((writeEntry i img s).modEntry i fun e => { e with state := .idle, pendingCount := 0 }).modEntry i fun e =>
          { e with pendingCount := 1 })
      else (writeEntry i img s).modEntry i fun e => { e with state := .idle, pendingCount := 0 } := by
  have hline : ((unbind i (writeEntry i img s)).entry i).line = (s.entry i).line := by
    rw [unbind_entry, if_pos rfl, writeEntry_entry, if_pos rfl]; rfl
  rw [applyEntry_bound_edge img h ht, settleRelease, hline, setDelivery_setPending]
  refine if_congr Iff.rfl rfl ?_
  exact modEntry_modEntry ..

end applyEntry

/-! ### Lanes and tables that a commit leaves -/

/-- Nothing changed but the entries, the notices and what delivery may change of the lanes. -/
def LanesDeliver (s t : State) : Prop := DeliveryFrame s t ∧ ∀ k, LaneDelivers (s.lane k) (t.lane k)

theorem LanesDeliver.refl (s : State) : LanesDeliver s s := ⟨rfl, fun _ => .refl _⟩

theorem LanesDeliver.trans {s t u : State} (h : LanesDeliver s t) (h' : LanesDeliver t u) : LanesDeliver s u :=
  ⟨h.1.trans h'.1, fun k => (h.2 k).trans (h'.2 k)⟩

theorem Delivers.lanes {s t : State} (h : Delivers s t) : LanesDeliver s t := ⟨h.1, h.2.2.1⟩

theorem Takes.lanes {i : EntryIdx} {s t : State} (h : Takes i s t) : LanesDeliver s t := ⟨h.1, h.2.2.2.1⟩

theorem LanesDeliver.modEntry (s : State) (i : EntryIdx) (f : Entry → Entry) : LanesDeliver s (s.modEntry i f) := ⟨rfl, fun _ => .refl _⟩

theorem LanesDeliver.settlePending (i : EntryIdx) (n : Nat) (s : State) : LanesDeliver s (settlePending i n s) := by
  rw [settlePending_eq]
  split
  · exact .modEntry s i _
  · exact (LanesDeliver.modEntry s i _).trans (Delivers.offer i _).lanes

theorem LanesDeliver.applyEntry (i : EntryIdx) (img : Image) (s : State) : LanesDeliver s (applyEntry i img s) := by
  have hw : LanesDeliver s (writeEntry i img s) := .modEntry s i _
  rcases (s.entry i).state.idle_or_waits_or_outstanding with hs | hs | ⟨k, v, hs⟩
  · rw [applyEntry_idle img hs]
    split
    · exact (hw.trans (.modEntry _ i _)).trans (Delivers.offer i _).lanes
    · exact hw
  · rw [applyEntry_waits img hs]
    exact (hw.trans (Delivers.withdraw i _).lanes).trans (.settlePending i _ _)
  · cases ht : img.trigger with
    | level => rw [applyEntry_bound_level img hs ht]; exact hw
    | edge =>
      rw [applyEntry_bound_edge img hs ht]
      exact (hw.trans (Takes.unbind i _).lanes).trans (Takes.settleRelease i _).lanes

/-! ### The records in list order -/

/-- Step 1 of a commit (R174). -/
def groupsApplied (l : List StagedRecord) (s : State) : State := l.foldl (fun t r => applyGroupRecord r t) s

/-- Step 2 of a commit (R174). -/
def entriesApplied (l : List StagedRecord) (s : State) : State := l.foldl (fun t r => applyEntryRecord r t) s

theorem groupsApplied_frame (l : List StagedRecord) (s : State) : groupsApplied l s = { s with groups := (groupsApplied l s).groups } := by
  induction l generalizing s with
  | nil => rfl
  | cons r rest ih =>
    cases r with
    | entry i img => exact ih s
    | group g c => exact ih (s.setGroup g c)

/-- The Group Table after step 1: a group with a record has its content, and any other group stands. -/
theorem groupsApplied_group {l : List StagedRecord} (h : l.Pairwise fun a b => ¬ ∃ g c d, (a = .group g c ∧ b = .group g d)) (s : State) (g : GroupId) :
    (∀ c, StagedRecord.group g c ∈ l → (groupsApplied l s).group g = c) ∧
    ((∀ c, StagedRecord.group g c ∉ l) → (groupsApplied l s).group g = s.group g) := by
  induction l generalizing s with
  | nil => exact ⟨nofun, fun _ => rfl⟩
  | cons r rest ih =>
    obtain ⟨hr, hrest⟩ := List.pairwise_cons.mp h
    obtain ⟨hin, hout⟩ := ih hrest (applyGroupRecord r s)
    refine ⟨fun c hc => ?_, fun hn => ?_⟩
    · rcases List.mem_cons.mp hc with e | hc
      · subst e
        refine (hout fun d hd => hr _ hd ⟨g, c, d, rfl, rfl⟩).trans ?_
        rw [applyGroupRecord, group_setGroup, if_pos rfl]
      · exact hin c hc
    · refine (hout fun c hc => hn c (List.mem_cons_of_mem r hc)).trans ?_
      cases r with
      | entry i img => rfl
      | group j c =>
        rw [applyGroupRecord, group_setGroup, if_neg]
        rintro rfl
        exact hn c List.mem_cons_self

theorem LanesDeliver.entriesApplied (l : List StagedRecord) (s : State) : LanesDeliver s (entriesApplied l s) := by
  induction l generalizing s with
  | nil => exact .refl s
  | cons r rest ih =>
    refine LanesDeliver.trans (t := applyEntryRecord r s) ?_ (ih _)
    cases r with
    | entry i img => exact .applyEntry i img s
    | group g c => exact .refl s

/-- The Steering Table after step 2: an entry with a record is written and settled by it, between promotions that the records before and after may
bring it; to any other entry promotions alone happen. -/
theorem entriesApplied_entry {l : List StagedRecord} (h : l.Pairwise fun a b => ¬ ∃ i c d, (a = .entry i c ∧ b = .entry i d)) {s u : State}
    (hb : Between s u) :
    Between s (entriesApplied l u) ∧
    ∀ i, (∀ img, StagedRecord.entry i img ∈ l → ∃ e f, EntryPromotes i (u.entry i) e ∧ EntryWritten s i img e f ∧
        EntryPromotes i f ((entriesApplied l u).entry i)) ∧
      ((∀ img, StagedRecord.entry i img ∉ l) → EntryPromotes i (u.entry i) ((entriesApplied l u).entry i)) := by
  induction l generalizing u with
  | nil => exact ⟨hb, fun i => ⟨nofun, fun _ => .refl _ _⟩⟩
  | cons r rest ih =>
    obtain ⟨hr, hrest⟩ := List.pairwise_cons.mp h
    cases r with
    | group g c =>
      obtain ⟨hbr, he⟩ := ih hrest hb
      refine ⟨hbr, fun i => ⟨fun img hi => (he i).1 img ?_, fun hn => (he i).2 fun img hi => hn img (List.mem_cons_of_mem _ hi)⟩⟩
      exact (List.mem_cons.mp hi).resolve_left nofun
    | entry j content =>
      obtain ⟨hb', hw, hp⟩ := applyEntry_entries hb j content
      obtain ⟨hbr, he⟩ := ih hrest hb'
      refine ⟨hbr, fun i => ⟨fun img hi => ?_, fun hn => ?_⟩⟩
      · rcases List.mem_cons.mp hi with e | hin
        · cases e
          exact ⟨_, _, .refl _ _, hw, (he j).2 fun d hd => hr _ hd ⟨j, content, d, rfl, rfl⟩⟩
        · have hne : i ≠ j := by
            rintro rfl
            exact hr _ hin ⟨i, content, img, rfl, rfl⟩
          obtain ⟨e, f, h1, h2, h3⟩ := (he i).1 img hin
          exact ⟨e, f, (hp i hne).trans h1, h2, h3⟩
      · have hne : i ≠ j := by
          rintro rfl
          exact hn content List.mem_cons_self
        exact (hp i hne).trans ((he i).2 fun img hi => hn img (List.mem_cons_of_mem _ hi))

/-! ### A settled entry -/

theorem EntryPromotes.config {i : EntryIdx} {e f : Entry} (h : EntryPromotes i e f) :
    f.image = e.image ∧ f.code = e.code ∧ f.workMask = e.workMask := by
  rcases h with rfl | ⟨k, -, ⟨-, rfl⟩ | ⟨-, rfl⟩⟩ <;> exact ⟨rfl, rfl, rfl⟩

/-- What a commit states of an entry that it writes, from the entry before it (R175 to R178). -/
structure EntrySettled (i : EntryIdx) (img : Image) (e f : Entry) : Prop where
  image : f.image = img
  code : f.code = { image := img, index := i }
  mask : f.workMask = img.mask
  trigger : f.workTrigger = img.trigger
  quarantined : f.quarantined = false
  line : f.line = e.line
  raiseCount : f.raiseCount = e.raiseCount
  bound : ∀ j v, e.state = .outstanding j v →
    (img.trigger = .level → f.state = .outstanding j v) ∧ (img.trigger = .edge → e.line = false → f.state = .idle) ∧
    (img.trigger = .edge → e.line = true → f.state.waits = true ∧ f.pendingCount = 1)
  waits : e.state.waits = true → e.pendingCount ≠ 0 →
    (e.workTrigger = .edge → img.trigger = .level →
      (e.line = false → f.state = .idle ∧ f.pendingCount = 0) ∧ (e.line = true → f.state.waits = true ∧ f.pendingCount = 1)) ∧
    (e.workTrigger = .level ∨ img.trigger = .edge → f.state.waits = true ∧ f.pendingCount = e.pendingCount)
  idle : e.state = .idle →
    (img.trigger = .level ∧ img.mask = .opened ∧ e.line = true → f.state.waits = true ∧ f.pendingCount = 1) ∧
    (img.trigger = .edge ∨ img.mask = .masked ∨ e.line = false → f.state = .idle ∧ f.pendingCount = e.pendingCount)
  masked : img.mask = .masked → f.state = .idle ∨ f.state = .latched ∨ ∃ j v, f.state = .outstanding j v

/-- A promotion before the write changes nothing that the commit states. -/
theorem EntrySettled.after {i : EntryIdx} {img : Image} {e e' f : Entry} (h : EntryPromotes i e e') (h' : EntrySettled i img e' f) :
    EntrySettled i img e f := by
  obtain ⟨hl, hr, hn, ht, hw⟩ := h.kept
  have hsame : ∀ d : DeliveryState, d.waits = false → e.state = d → e'.state = d := fun d hd he => by
    rw [h.eq_of_not_waits (by rw [he]; exact hd), he]
  refine ⟨h'.image, h'.code, h'.mask, h'.trigger, h'.quarantined, h'.line.trans hl, h'.raiseCount.trans hr, fun j v hs => ?_, fun hs => ?_,
    fun hs => ?_, h'.masked⟩
  · have hb := h'.bound j v (hsame _ rfl hs)
    rwa [hl] at hb
  · have hb := h'.waits (hw.trans hs)
    rwa [hl, hn, ht] at hb
  · have hb := h'.idle (hsame _ rfl hs)
    rwa [hl, hn] at hb

/-- A promotion after the write changes nothing that the commit states: the image it checks is the one written with its code. -/
theorem EntrySettled.before {i : EntryIdx} {img : Image} {e f g : Entry} (h : EntrySettled i img e f) (h' : EntryPromotes i f g) :
    EntrySettled i img e g := by
  rcases h' with rfl | ⟨k, hk, ⟨-, rfl⟩ | ⟨hc, -⟩⟩
  · exact h
  · have hno : ∀ d : DeliveryState, (∀ k, d ≠ .held k) → f.state ≠ d := fun d hd hf => hd k (hf.symm.trans hk)
    refine ⟨h.image, h.code, h.mask, h.trigger, h.quarantined, h.line, h.raiseCount, fun j v hs => ?_, fun hs hn => ?_, fun hs => ?_,
      fun hm => ?_⟩
    · obtain ⟨h1, h2, h3⟩ := h.bound j v hs
      exact ⟨fun a => absurd (h1 a) (hno _ nofun), fun a b => absurd (h2 a b) (hno _ nofun), fun a b => ⟨rfl, (h3 a b).2⟩⟩
    · obtain ⟨h1, h2⟩ := h.waits hs hn
      exact ⟨fun a b => ⟨fun c => absurd ((h1 a b).1 c).1 (hno _ nofun), fun c => ⟨rfl, ((h1 a b).2 c).2⟩⟩, fun a => ⟨rfl, (h2 a).2⟩⟩
    · obtain ⟨h1, h2⟩ := h.idle hs
      exact ⟨fun a => ⟨rfl, (h1 a).2⟩, fun a => absurd (h2 a).1 (hno _ nofun)⟩
    · rcases h.masked hm with e | e | ⟨j, v, e⟩
      · exact absurd e (hno _ nofun)
      · exact absurd e (hno _ nofun)
      · exact absurd e (hno _ nofun)
  · exact absurd (by rw [h.code, h.image]; rfl) hc

end Sys2Proof.Machine

/-!
# The commit

COMMIT as a state equation, and what it leaves of every entry, group and lane (R174 to R178).
-/

namespace Sys2Proof.Machine

-- One theorem is elaborated after the other: many at once need too many threads.
set_option Elab.async false

/-! ### A written entry is settled -/

/-- The offer of an entry just written: its check passes, so that it is not quarantined (R11, R175). -/
theorem EntryOffered.of_written {s : State} {i : EntryIdx} {img : Image} {e f : Entry} {n : Nat}
    (h : EntryOffered s i { e.written i img with pendingCount := n } f) :
    ∃ d : DeliveryState, d.waits = true ∧ (img.mask = .masked → d = .latched) ∧ f = { e.written i img with state := d, pendingCount := n } := by
  obtain ⟨d, q, hd, rfl, -, hq, hm⟩ := h
  refine ⟨d, hd.waits, hm, ?_⟩
  rw [hq rfl]

theorem EntryWritten.settled {s : State} {i : EntryIdx} {img : Image} {e f : Entry} (h : EntryWritten s i img e f) : EntrySettled i img e f := by
  obtain ⟨hidle, hwaits, hbound⟩ := h
  rcases e.state.idle_or_waits_or_outstanding with hs | hs | ⟨k, v, hs⟩
  · obtain ⟨h1, h0⟩ := hidle hs
    have nb : ∀ j v, e.state ≠ .outstanding j v := fun j v => by rw [hs]; nofun
    have nw : e.state.waits ≠ true := by rw [hs]; nofun
    by_cases hc : img.trigger = .level ∧ img.mask = .opened ∧ e.line = true
    · obtain ⟨d, hd, hm, rfl⟩ := (h1 hc).of_written
      refine ⟨rfl, rfl, rfl, rfl, rfl, rfl, rfl, fun j v a => absurd a (nb j v), fun a => absurd a nw, fun _ => ⟨fun _ => ⟨hd, rfl⟩, fun a => ?_⟩,
        fun a => .inr (.inl (hm a))⟩
      obtain ⟨c1, c2, c3⟩ := hc
      simp [c1, c2, c3] at a
    · rw [h0 hc]
      exact ⟨rfl, rfl, rfl, rfl, rfl, rfl, rfl, fun j v a => absurd a (nb j v), fun a => absurd a nw,
        fun _ => ⟨fun a => absurd a hc, fun _ => ⟨hs, rfl⟩⟩, fun _ => .inl hs⟩
  · obtain ⟨h0, h1⟩ := hwaits hs
    rw [convertCount_eq] at h0 h1
    have nb : ∀ j v, e.state ≠ .outstanding j v := fun j v a => by rw [a] at hs; cases hs
    have ni : e.state ≠ .idle := fun a => by rw [a] at hs; cases hs
    have hlevel : e.workTrigger = .level ∨ img.trigger = .edge → ¬ (e.workTrigger = .edge ∧ img.trigger = .level) := by
      rintro (a | a) ⟨b, c⟩
      · rw [a] at b; cases b
      · rw [a] at c; cases c
    by_cases hz : (if e.workTrigger = .edge ∧ img.trigger = .level then (if e.line = true then 1 else 0) else e.pendingCount) = 0
    · rw [h0 hz]
      refine ⟨rfl, rfl, rfl, rfl, rfl, rfl, rfl, fun j v a => absurd a (nb j v), fun _ hn => ⟨fun a b => ⟨fun _ => ⟨rfl, rfl⟩, fun c => ?_⟩,
        fun a => ?_⟩, fun a => absurd a ni, fun _ => .inl rfl⟩
      · rw [if_pos ⟨a, b⟩, if_pos c] at hz; cases hz
      · rw [if_neg (hlevel a)] at hz; exact absurd hz hn
    · obtain ⟨d, hd, hm, rfl⟩ := (h1 hz).of_written
      refine ⟨rfl, rfl, rfl, rfl, rfl, rfl, rfl, fun j v a => absurd a (nb j v), fun _ hn => ⟨fun a b => ⟨fun c => ?_, fun c => ⟨hd, ?_⟩⟩,
        fun a => ⟨hd, if_neg (hlevel a)⟩⟩, fun a => absurd a ni, fun a => .inr (.inl (hm a))⟩
      · rw [if_pos ⟨a, b⟩, if_neg (by simp [c])] at hz; exact absurd rfl hz
      · exact (if_pos ⟨a, b⟩).trans (if_pos c)
  · obtain ⟨h1, h2⟩ := hbound k v hs
    have nw : e.state.waits ≠ true := by rw [hs]; nofun
    have ni : e.state ≠ .idle := by rw [hs]; nofun
    cases ht : img.trigger with
    | level =>
      rw [h1 ht]
      exact ⟨rfl, rfl, rfl, rfl, rfl, rfl, rfl, fun j w a => ⟨fun _ => a, fun b => (by rw [ht] at b; cases b), fun b => (by rw [ht] at b; cases b)⟩,
        fun a => absurd a nw, fun a => absurd a ni, fun _ => .inr (.inr ⟨k, v, hs⟩)⟩
    | edge =>
      obtain ⟨hlow, hhigh⟩ := h2 ht
      cases hl : e.line with
      | false =>
        rw [hlow hl]
        exact ⟨rfl, rfl, rfl, rfl, rfl, rfl, rfl,
          fun j w a => ⟨fun b => (by rw [ht] at b; cases b), fun _ _ => rfl, fun _ b => (by rw [hl] at b; cases b)⟩,
          fun a => absurd a nw, fun a => absurd a ni, fun _ => .inl rfl⟩
      | true =>
        obtain ⟨d, hd, hm, rfl⟩ := (hhigh hl).of_written
        exact ⟨rfl, rfl, rfl, rfl, rfl, rfl, rfl,
          fun j w a => ⟨fun b => (by rw [ht] at b; cases b), fun _ b => (by rw [hl] at b; cases b), fun _ _ => ⟨hd, rfl⟩⟩,
          fun a => absurd a nw, fun a => absurd a ni, fun a => .inr (.inl (hm a))⟩

/-! ### The commit's own tests -/

theorem firstFault_eq_none {s : State} {l : List StagedRecord} (h : ∀ x ∈ l, recordFault s x = none) (n : Nat) : firstFault s n l = none := by
  induction l generalizing n with
  | nil => rfl
  | cons r rest ih =>
    rw [firstFault, h r List.mem_cons_self]
    exact ih (fun x hx => h x (List.mem_cons_of_mem r hx)) (n + 1)

theorem entryStaged_iff (s : State) (i : EntryIdx) : entryStaged s i = true ↔ ∃ img, StagedRecord.entry i img ∈ s.staging := by
  rw [entryStaged, List.any_eq_true]
  refine ⟨fun ⟨x, hx, hi⟩ => ?_, fun ⟨img, hx⟩ => ⟨_, hx, decide_eq_true rfl⟩⟩
  cases x with
  | entry j img => exact ⟨img, of_decide_eq_true hi ▸ hx⟩
  | group g c => cases hi

theorem groupWritten_iff (s : State) (g : GroupId) : groupWritten s g = true ↔ ∃ c, StagedRecord.group g c ∈ s.staging := by
  rw [groupWritten, List.any_eq_true]
  refine ⟨fun ⟨x, hx, hi⟩ => ?_, fun ⟨c, hx⟩ => ⟨_, hx, decide_eq_true rfl⟩⟩
  cases x with
  | entry j img => cases hi
  | group h c => exact ⟨c, of_decide_eq_true hi ▸ hx⟩

/-- A COMMIT that its refusals and its validation let pass (R172, R173). -/
theorem commitStaging_passes {s : State} {k : LaneId} (hne : s.staging ≠ []) (ho : s.owner = some k)
    (hf : ∀ x ∈ s.staging, recordFault s x = none) : commitStaging k s = answer [oneByte s.staging.length] (applyCommit s) := by
  have hown : ownedByOther s k = false := by simp [ownedByOther, ho]
  rw [commitStaging, if_neg (by simpa using hne), if_neg (by simp [hown]), firstFault_eq_none hf]

/-! ### The commit applied -/

/-- The STRANDED entries that a commit offers again: those of the written groups that have no record (R60). -/
def strandedAfter (s : State) : List EntryIdx :=
  (strandedWhere (groupWritten s) (entriesApplied s.staging (groupsApplied s.staging s))).filter fun i => !entryStaged s i

theorem applyCommit_eq (s : State) :
    applyCommit s = clearStaging (offerAll (strandedAfter s) (entriesApplied s.staging (groupsApplied s.staging s))) := rfl

theorem strandedAfter_ascending (s : State) : (strandedAfter s).Pairwise (· < ·) := (rowsWhere_ascending _ _).filter _

theorem strandedAfter_mem (s : State) (i : EntryIdx) :
    i ∈ strandedAfter s ↔ ((entriesApplied s.staging (groupsApplied s.staging s)).entry i).state = .stranded ∧
      (∃ c, StagedRecord.group ((entriesApplied s.staging (groupsApplied s.staging s)).entry i).image.group c ∈ s.staging) ∧
      ∀ img, StagedRecord.entry i img ∉ s.staging := by
  rw [strandedAfter, List.mem_filter, strandedWhere_mem, groupWritten_iff, Bool.not_eq_true', ← Bool.not_eq_true, entryStaged_iff, not_exists,
    and_assoc]

theorem clearStaging_lane (s : State) (k : LaneId) : (clearStaging s).lane k = { s.lane k with readPos := 0 } :=
  lane_mapLanes s (fun _ l => { l with readPos := 0 }) k

theorem clearStaging_frame (s : State) : clearStaging s = { s with lanes := (clearStaging s).lanes, staging := [], owner := none } := rfl

theorem groupsApplied_entry (l : List StagedRecord) (s : State) (i : EntryIdx) : (groupsApplied l s).entry i = s.entry i := by
  rw [groupsApplied_frame]; rfl

theorem groupsApplied_lane (l : List StagedRecord) (s : State) (k : LaneId) : (groupsApplied l s).lane k = s.lane k := by
  rw [groupsApplied_frame]; rfl

theorem PlacementSound.groupsApplied {s : State} (h : PlacementSound s) (l : List StagedRecord) : PlacementSound (groupsApplied l s) :=
  h.congr (fun j => by rw [groupsApplied_entry]) (fun k => by rw [groupsApplied_lane]) (fun k => by rw [groupsApplied_lane])

section applyCommit
variable {s : State} (hst : StagingSound s) (hpl : PlacementSound s)

theorem applyCommit_entry (i : EntryIdx) :
    (applyCommit s).entry i = (offerAll (strandedAfter s) (entriesApplied s.staging (groupsApplied s.staging s))).entry i := by
  rw [applyCommit_eq]
  exact (Quiet.clearStaging _).entry i

/-- Nothing of the lanes but what delivery may change, and the read positions; the tables of nodes and ports, the sweep and the manager lane stand. -/
theorem applyCommit_lane (s : State) (k : LaneId) : ∃ l, LaneDelivers (s.lane k) l ∧ (applyCommit s).lane k = { l with readPos := 0 } := by
  refine ⟨_, ?_, clearStaging_lane _ k⟩
  have h := (LanesDeliver.entriesApplied s.staging (groupsApplied s.staging s)).trans (Delivers.offerAll (strandedAfter s) _).lanes
  rw [← groupsApplied_lane s.staging s k]
  exact h.2 k

theorem applyCommit_frame (s : State) : applyCommit s =
    { s with
      entries := (applyCommit s).entries, groups := (groupsApplied s.staging s).groups, lanes := (applyCommit s).lanes
      notices := (applyCommit s).notices, staging := [], owner := none } := by
  have h := ((LanesDeliver.entriesApplied s.staging (groupsApplied s.staging s)).trans (Delivers.offerAll (strandedAfter s) _).lanes).1
  have hg := groupsApplied_frame s.staging s
  unfold DeliveryFrame at h
  rw [applyCommit_eq, clearStaging_frame, h, hg]

include hst hpl

/-- What a commit leaves of an entry that it writes (R175 to R178). -/
theorem applyCommit_settles {i : EntryIdx} {img : Image} (hi : StagedRecord.entry i img ∈ s.staging) :
    EntrySettled i img (s.entry i) ((applyCommit s).entry i) := by
  obtain ⟨-, hpair, -, -⟩ := hst
  obtain ⟨hb, he⟩ := entriesApplied_entry hpair (Between.refl (hpl.groupsApplied s.staging))
  obtain ⟨-, hother, -⟩ := offerAll_entries hb.1 (is := strandedAfter s) ((strandedAfter_ascending s).imp fun h => Fin.ne_of_lt h)
    fun j hj => by rw [((strandedAfter_mem s j).mp hj).1]; rfl
  obtain ⟨e, f, h1, h2, h3⟩ := (he i).1 img hi
  rw [applyCommit_entry, hother i fun hm => ((strandedAfter_mem s i).mp hm).2.2 img hi]
  rw [groupsApplied_entry] at h1
  exact .after h1 (h2.settled.before h3)

/-- What a commit leaves of an entry that it does not write: everything but its delivery state and quarantine flag. -/
theorem applyCommit_keeps {i : EntryIdx} (hi : ∀ img, StagedRecord.entry i img ∉ s.staging) :
    ((applyCommit s).entry i).image = (s.entry i).image ∧ ((applyCommit s).entry i).code = (s.entry i).code ∧
    ((applyCommit s).entry i).workMask = (s.entry i).workMask ∧ ((applyCommit s).entry i).workTrigger = (s.entry i).workTrigger ∧
    ((applyCommit s).entry i).pendingCount = (s.entry i).pendingCount ∧ ((applyCommit s).entry i).line = (s.entry i).line ∧
    ((applyCommit s).entry i).raiseCount = (s.entry i).raiseCount := by
  obtain ⟨-, hpair, -, -⟩ := hst
  obtain ⟨-, he⟩ := entriesApplied_entry hpair (Between.refl (hpl.groupsApplied s.staging))
  have hpr := (he i).2 hi
  rw [groupsApplied_entry] at hpr
  obtain ⟨h1, h2, h3, h4, -⟩ := hpr.kept
  obtain ⟨h5, h6, h7⟩ := hpr.config
  obtain ⟨hd, -⟩ := (Delivers.offerAll (strandedAfter s) (entriesApplied s.staging (groupsApplied s.staging s))).2.1 i
  rw [applyCommit_entry, hd]
  exact ⟨h5, h6, h7, h4, h3, h1, h2⟩

end applyCommit

end Sys2Proof.Machine

/-!
# COMMIT, settled
-/

namespace Sys2Proof.Machine

-- One theorem is elaborated after the other: many at once need too many threads.
set_option Elab.async false

@[simp] theorem Lane.workToSend_slot (l : Lane) : l.workToSend.slot = l.slot := by
  unfold Lane.workToSend Lane.wake; split <;> simp_all

@[simp] theorem Lane.workToSend_control (l : Lane) : l.workToSend.control = l.control := by
  unfold Lane.workToSend Lane.wake; split <;> simp_all

@[simp] theorem Lane.workToSend_readPos (l : Lane) : l.workToSend.readPos = l.readPos := by
  unfold Lane.workToSend Lane.wake; split <;> simp_all

/-- The write and the settlement of an entry record as the manual states them (R175 to R178). -/
def recordSettled (i : EntryIdx) (img : Image) (u : State) : State :=
  let e := u.entry i
  let w := writeEntry i img u
  let offered : Nat → State → State := fun n x => offer i (x.modEntry i fun y => { y with pendingCount := n })
  let idle : State → State := fun x => x.modEntry i fun y => { y with state := .idle, pendingCount := 0 }
  match e.state with
  | .idle => if img.trigger = .level ∧ img.mask = .opened ∧ e.line = true then offered 1 w else w
  | .outstanding _ _ => if img.trigger = .level then w else if e.line = true then offered 1 (idle w) else idle w
  | .latched | .stranded | .queued _ | .held _ =>
    let count := if e.workTrigger = .edge ∧ img.trigger = .level then (if e.line = true then 1 else 0) else e.pendingCount
    if count = 0 then idle (withdraw i w) else offered count (withdraw i w)

theorem applyEntry_eq (i : EntryIdx) (img : Image) (u : State) : applyEntry i img u = recordSettled i img u := by
  unfold recordSettled
  rcases (u.entry i).state.idle_or_waits_or_outstanding with hs | hs | ⟨k, v, hs⟩
  · rw [applyEntry_idle img hs]
    simp only [hs]
    rfl
  · rw [applyEntry_waits img hs, settlePending_eq, convertCount_eq]
    cases e : (u.entry i).state with
    | latched | stranded | held | queued => dsimp only; rw [e]
    | idle | outstanding => rw [e] at hs; cases hs
  · simp only [hs]
    cases ht : img.trigger with
    | level => rw [applyEntry_bound_level img hs ht, if_pos rfl]
    | edge => exact (applyEntry_bound_edge_eq img hs ht).trans (if_neg (by decide)).symm

theorem applyCommit_group (s : State) (g : GroupId) : (applyCommit s).group g = (groupsApplied s.staging s).group g := by
  have h := congrArg State.groups (applyCommit_frame s)
  simp only [State.group, h]

/-- A COMMIT that its refusals and its validation let pass, as the next state (R149, R174). -/
theorem commit_next {s : State} {k : LaneId} {r : Request} (h : Serves s k r 0x0C true) (hne : s.staging ≠ []) (ho : s.owner = some k)
    (hf : ∀ x ∈ s.staging, recordFault s x = none) :
    exec .commit s =
      .next (settle none s (answered k r .done [oneByte s.staging.length] (applyCommit { s with pointer := k }))) := by
  have hc : commitStaging k { s with pointer := k } = answer [oneByte s.staging.length] (applyCommit { s with pointer := k }) :=
    commitStaging_passes (s := { s with pointer := k }) hne ho fun x hx => by rw [← hf x hx]; cases x <;> rfl
  change execCommit s = _
  rw [execCommit, event_next, serve_of_serves h, hc]
  rfl

/-- Settles O44: the commit as a state equation, and what it leaves of groups, entries, lanes and the other tables (R174 to R178, R60). -/
theorem commitWritesEveryStagedRecord : Obligations.CommitWritesEveryStagedRecord := by
  intro s k r h hne ho hst hpl hf settled grouped written
  have hnext := commit_next h hne ho hf
  have hwritten : entriesApplied s.staging (groupsApplied s.staging { s with pointer := k }) = written := by
    have hrec : (fun t r => applyEntryRecord r t) = fun (u : State) x => match x with
        | StagedRecord.entry i img => settled i img u
        | .group _ _ => u := by
      funext u x
      cases x with
      | entry i img => exact applyEntry_eq i img u
      | group g c => rfl
    rw [entriesApplied, hrec]
    rfl
  have hgroup := groupsApplied_group hst.2.2.1 { s with pointer := k }
  have hframe := applyCommit_frame { s with pointer := k }
  have hlane := applyCommit_lane { s with pointer := k }
  have hsettles := fun i img => applyCommit_settles (s := { s with pointer := k }) hst hpl (i := i) (img := img)
  have hkeeps := fun i => applyCommit_keeps (s := { s with pointer := k }) hst hpl (i := i)
  have hmem := strandedAfter_mem { s with pointer := k }
  have heq : applyCommit { s with pointer := k } =
      { (offerAll (strandedAfter { s with pointer := k }) written).mapLanes (fun _ l => { l with readPos := 0 }) with
        staging := [], owner := none } := by rw [applyCommit_eq, ← hwritten]; rfl
  have hasc := strandedAfter_ascending { s with pointer := k }
  have hgroups := applyCommit_group { s with pointer := k }
  rw [hwritten] at hmem
  generalize strandedAfter { s with pointer := k } = stranded at hmem heq hasc
  generalize applyCommit { s with pointer := k } = c at hnext hframe hlane hsettles hkeeps heq hgroups
  refine ⟨_, stranded, hnext, hasc, hmem, ?_, fun g d hg => ?_, fun g hg => ?_, fun i img hi => ?_, fun i hi => ?_, fun i => ?_, ?_, ?_,
    fun j => ?_, ?_, ?_, ?_, ?_, ?_, ?_⟩
  · rw [settle_still, heq]; rfl
  · exact (hgroups g).trans ((hgroup g).1 d hg)
  · exact (hgroups g).trans ((hgroup g).2 hg)
  · obtain ⟨h1, h2, h3, h4, h5, -, -, h6, h7, h8, h9⟩ := hsettles i img hi
    exact ⟨h1, h2, h3, h4, h5, h6, h7, h8, h9⟩
  · obtain ⟨h1, h2, h3, h4, h5, -, -⟩ := hkeeps i hi
    exact ⟨h1, h2, h3, h4, h5⟩
  · by_cases hi : ∃ img, StagedRecord.entry i img ∈ s.staging
    · obtain ⟨img, hi⟩ := hi
      exact ⟨(hsettles i img hi).line, (hsettles i img hi).raiseCount⟩
    · obtain ⟨-, -, -, -, -, h1, h2⟩ := hkeeps i (not_exists.mp hi)
      exact ⟨h1, h2⟩
  · rw [settle_staging, answered_staging, hframe]
  · rw [settle_owner, answered_owner, hframe]
  · obtain ⟨l, -, hl⟩ := hlane j
    rw [settle_lane, settleIdle_readPos, answered_lane, hl]
    split
    · exact Lane.workToSend_readPos _
    · rfl
  · rw [settle_lane, settleIdle_slot, answered_lane, if_pos rfl, Lane.workToSend_slot]
  · obtain ⟨l, hd, hl⟩ := hlane k
    have hctl : l.control = (s.lane k).control := by rw [hd.1]; rfl
    rw [settle_lane, settleIdle_control, answered_lane, if_pos rfl, Lane.workToSend_control, hl, ← hctl]
  · rw [settle_nodes, answered_nodes, hframe]
  · rw [settle_ports, answered_ports, hframe]
  · rw [settle_sweep, answered_sweep, hframe]
  · rw [settle_manager, answered_manager, hframe]

end Sys2Proof.Machine

/-!
# Field ports: what is received, and what a received frame does

A link that is down, a damaged frame, a frame accepted, a PRESENT of both lines, and the port's transmitter (R27 to R43, R99, R100).
-/

namespace Sys2Proof.Machine

-- One theorem is elaborated after the other: many at once need too many threads.
set_option Elab.async false

/-! ### An event whose effect is known -/

/-- An event with the effect `u` on its state leaves `u`, but for the lanes' idle timing. -/
theorem event_still {crossed : Option LaneId} {s u : State} {f : State → State} (h : f s = u) :
    ∃ t, event crossed s f = .next t ∧ t.still = u.still :=
  ⟨_, event_next crossed s f, by rw [settle_still, h]⟩

/-! ### Nothing received -/

theorem receives_eq_false {s : State} {p : Port} (h : (s.port p).link = false ∨ (s.port p).sending ≠ none) : receives s p = false := by
  rcases h with h | h
  · simp [receives, h]
  · simp [receives, Option.isNone_eq_false_iff, Option.isSome_iff_ne_none, h]

/-- A frame on a port that is not receiving changes nothing (R27, R32). -/
theorem fieldArrival_not_received {s : State} {p : Port} {c : Instr} (hc : fieldArrival c = some p) (h : receives s p = false) :
    ∃ t, exec c s = .next t ∧ t.still = s.still := by
  cases c <;> simp only [fieldArrival, reduceCtorEq, Option.some.injEq] at hc <;> subst hc
  case raise | drop | present | fieldFrameDiscarded => exact event_still (if_neg (by simp [h]))

theorem hostFrame_no_link {s : State} {k : LaneId} (h : (s.lane k).link = false) (take : State → State) : hostFrame k take s = s :=
  if_neg (by simp [h])

/-- A frame on a lane whose link is absent changes nothing (R117). -/
theorem laneArrival_not_received {s : State} {k : LaneId} {c : Instr} (hc : laneArrival c = some k) (h : (s.lane k).link = false) :
    ∃ t, exec c s = .next t ∧ t.still = s.still := by
  cases c <;> simp only [laneArrival, reduceCtorEq, Option.some.injEq] at hc <;> subst hc
  case retire | credit | mgmtRequest | ready => exact event_still (hostFrame_no_link h _)
  case hello | goodbye | parkAck | parkNak => exact event_still (if_neg (by simp [h]))
  case laneFrameDiscarded k bytes =>
    have hd : exec (.laneFrameDiscarded k bytes) s = event none s id := if_neg (by simp [h])
    rw [hd]
    exact event_still rfl

/-- Settles O5: every arrival reads its port's receiver, or its lane's link, first (R27, R32, R117). -/
theorem nothingIsReceivedWithoutALink : Obligations.NothingIsReceivedWithoutALink := fun _ _ =>
  ⟨fun _ hc h => fieldArrival_not_received hc (receives_eq_false h), fun _ hc h => laneArrival_not_received hc h⟩

/-! ### Damaged frames -/

/-- The three failures of a field frame, in the order in which its receiver judges it (R28 to R30). -/
theorem judgeField_eq_none {p : Port} {bytes : List Byte}
    (h : bytes.length ≠ 4 ∨ ∃ b0 b1 b2 b3, bytes = [b0, b1, b2, b3] ∧ (crc8 [b0, b1, b2] ≠ b3 ∨ b0.toNat / 64 = 3)) :
    judgeField p bytes = none := by
  rcases h with hlen | ⟨b0, b1, b2, b3, rfl, hcheck | hkind⟩
  · unfold judgeField
    split
    · exact absurd rfl hlen
    · rfl
  · exact if_neg hcheck
  · have hd : decodeField p b0 b1 b2 = none := by simp only [decodeField, hkind]
    simp only [judgeField, hd, ite_self]

/-- A kind that no host sends is read as no command (R197). -/
theorem decodeLane_eq_none {kind : Byte} (h : kind ∉ [0x10#8, 0x13#8, 0x21#8, 0x22#8, 0x30#8, 0x41#8, 0x42#8, 0x43#8]) (k : LaneId) (w : Bool)
    (payload : List Byte) : decodeLane k w kind payload = none := by
  have hne : ∀ x : Byte, x ∈ [0x10#8, 0x13#8, 0x21#8, 0x22#8, 0x30#8, 0x41#8, 0x42#8, 0x43#8] → kind.toNat ≠ x.toNat :=
    fun x hx e => h (BitVec.eq_of_toNat_eq e ▸ hx)
  simp only [List.forall_mem_cons] at hne
  unfold decodeLane
  split <;> simp_all

/-- A lane frame whose length is not what its length byte says, or whose length byte is above 60 (R197). -/
theorem judgeLane_bad_length {k : LaneId} {w : Bool} {kind len : Byte} {rest : List Byte}
    (h : 60 < len.toNat ∨ (kind :: len :: rest).length ≠ 4 + len.toNat) : judgeLane k w (kind :: len :: rest) = none := by
  refine if_neg fun hc => ?_
  obtain ⟨h1, h2⟩ := hc
  simp only [Config.maxPayload, List.length_cons] at h h1
  omega

/-- A lane frame whose last two bytes are not its check code (R196, R197). -/
theorem judgeLane_bad_check {k : LaneId} {w : Bool} {kind hi lo : Byte} {payload : List Byte} (hp : payload.length ≤ 60)
    (h : [hi, lo] ≠ twoBytes (crc16 (kind :: oneByte payload.length :: payload)).toNat) :
    judgeLane k w (kind :: oneByte payload.length :: payload ++ [hi, lo]) = none := by
  have hl : (oneByte payload.length).toNat = payload.length := by simp [oneByte]; omega
  simp [judgeLane, hl, h]

/-- The failures of a lane frame (R197). -/
theorem judgeLane_eq_none {k : LaneId} {w : Bool} {bytes : List Byte}
    (h : bytes.length < 4 ∨
      (∃ kind len rest, bytes = kind :: len :: rest ∧ (60 < len.toNat ∨ bytes.length ≠ 4 + len.toNat)) ∨
      (∃ kind payload hi lo, payload.length ≤ 60 ∧ bytes = kind :: oneByte payload.length :: payload ++ [hi, lo] ∧
        [hi, lo] ≠ twoBytes (crc16 (kind :: oneByte payload.length :: payload)).toNat) ∨
      (∃ kind payload, bytes = laneFrameBytes kind payload ∧ payload.length ≤ 60 ∧
        kind ∉ [0x10#8, 0x13#8, 0x21#8, 0x22#8, 0x30#8, 0x41#8, 0x42#8, 0x43#8])) :
    judgeLane k w bytes = none := by
  rcases h with hshort | ⟨kind, len, rest, rfl, hlen⟩ | ⟨kind, payload, hi, lo, hp, rfl, hcheck⟩ | ⟨kind, payload, rfl, hp, hkind⟩
  · match bytes with
    | [] | [_] => rfl
    | kind :: len :: rest => exact judgeLane_bad_length (.inr (by omega))
  · exact judgeLane_bad_length hlen
  · exact judgeLane_bad_check hp hcheck
  · rw [judgeLane_laneFrameBytes k w kind payload hp, decodeLane_eq_none hkind]

/-- Settles O31: a frame that its receiver judges to be none is counted, and that is all (R28 to R30, R197). -/
theorem damagedFramesAreCounted : Obligations.DamagedFramesAreCounted := by
  intro s p k bytes
  refine ⟨fun hl hs hbad => event_still (if_pos ?_), fun hl hbad => ?_⟩
  · rw [receives_of hl hs, judgeField_eq_none hbad]
    rfl
  · have hx : exec (.laneFrameDiscarded k bytes) s = event (received k s) s fun s => countDiscarded s k :=
      if_pos (by rw [hl, judgeLane_eq_none hbad]; rfl)
    rw [hx]
    exact event_still rfl

/-! ### An accepted frame -/

section changes
variable (s : State) (p : Port)

/-- Two changes of one port are one change. -/
theorem modPort_modPort (f g : PortRecord → PortRecord) : (s.modPort p f).modPort p g = s.modPort p fun r => g (f r) := by
  simp [State.modPort, State.port]

/-- A change of a port and a change of a node are made in either order. -/
theorem modNode_modPort (q : Port) (n : Node) (f : NodeRecord → NodeRecord) (g : PortRecord → PortRecord) :
    (s.modNode q n f).modPort p g = (s.modPort p g).modNode q n f := rfl

end changes

/-- The port and the node as an accepted frame leaves them (R31, R100). -/
def heardState (p : Port) (n : Node) (s : State) : State :=
  (s.modPort p fun r =>
      { r with framesAccepted := r.framesAccepted + 1, sendList := r.sendList.filter (fun f => decide (f ≠ .probe n)) }).modNode p n
    fun _ => { presence := .present, quietTimer := some ((s.port p).quietTime.toNat * 1000), probeWaiting := false }

section accepted
variable {s : State} {p : Port} {n : Node}

/-- A frame of a node that was UNKNOWN or ABSENT is its arrival (R100). -/
theorem accepted_arrives (h : (s.node p n).presence = .unknown ∨ (s.node p n).presence = .absent) :
    accepted p n id s = raiseNotice .nodeArrived (p.val * 64 + n.val) (heardState p n s) := by
  rcases h with h | h <;>
    simp only [accepted, heard, heardState, id, modNode_modPort, modPort_modPort, modPort_node, port_modPort_same, millis, h]

theorem accepted_known (h : (s.node p n).presence = .present ∨ (s.node p n).presence = .doubted) :
    accepted p n id s = heardState p n s := by
  rcases h with h | h <;>
    simp only [accepted, heard, heardState, id, modNode_modPort, modPort_modPort, modPort_node, port_modPort_same, millis, h]

end accepted

/-- Settles O12: the arrival notice is raised for a node that was not known, and for no other (R31, R100). -/
theorem acceptedFrameMakesItsNodePresent : Obligations.AcceptedFrameMakesItsNodePresent := fun _ _ _ =>
  ⟨accepted_arrives, accepted_known⟩

/-- Settles O14: diff 0 takes the branch that counts the duplicate alone (R36). -/
theorem raiseWithTheRecordedCountIsADuplicate : Obligations.RaiseWithTheRecordedCountIsADuplicate := by
  intro s p n l c hl hs hr
  refine raise_received hl hs n l c ?_
  simp only [reconcileRaise, accepted_entry, hr, if_pos ((raiseDiff_eq_zero c c).mpr rfl)]
  rfl

/-! ### A PRESENT -/

section present
variable {s : State} {p : Port} {i : EntryIdx} {v : Bool} {c r : RaiseCount}

/-- With another count than the recorded one, a line is taken as the RAISE or the DROP that its level stands for (R42, R43). -/
theorem reconcilePresent_known (h : (s.entry i).raiseCount = some r) (hc : c ≠ r) :
    reconcilePresent p i v c s = if v then reconcileRaise p i c s else reconcileDrop p i c s := by
  simp only [reconcilePresent, reconcileRaise, reconcileDrop, h, if_neg fun e => hc ((raiseDiff_eq_zero r c).mp e)]

/-- With the recorded count, a line reported deasserted is deasserted, and one reported asserted is left (R42, R43). -/
theorem reconcilePresent_same (h : (s.entry i).raiseCount = some c) :
    reconcilePresent p i v c s = if v then s else deassert i s := by
  simp only [reconcilePresent, h, if_pos ((raiseDiff_eq_zero c c).mpr rfl)]

theorem reconcilePresent_unknown (h : (s.entry i).raiseCount = none) : reconcilePresent p i v c s = adoptPresent i v c s := by
  simp only [reconcilePresent, h]

/-- An EDGE line on an UNKNOWN baseline takes count and level, and no raise (R41). -/
theorem adoptPresent_edge (ht : (s.entry i).workTrigger = .edge) :
    adoptPresent i v c s = s.modEntry i fun e => { e with raiseCount := some c, line := v || e.line } := by
  simp only [adoptPresent, ht]
  cases v with
  | false => exact (if_neg nofun).trans (modEntry_congr rfl)
  | true => exact (if_pos rfl).trans (modEntry_modEntry ..)

/-- A LEVEL line on an UNKNOWN baseline takes its count and, asserted, is a level assert (R41). -/
theorem adoptPresent_level (ht : (s.entry i).workTrigger = .level) :
    adoptPresent i v c s = if v then levelAssert i (recordCount i c s) else recordCount i c s := by
  simp only [adoptPresent, ht]

end present

/-- Settles O17: both lines in their order, and each line by its baseline, its count and its trigger (R31, R41 to R43). -/
theorem presentReportsBothLines : Obligations.PresentReportsBothLines := by
  refine ⟨fun s p n v0 c0 v1 c1 hl hs => event_still ((if_pos (receives_of hl hs)).trans rfl), fun s p i v c =>
    ⟨fun r hr => ⟨reconcilePresent_known hr, ?_, ?_⟩, fun hr => ⟨fun ht => ?_, fun ht => ?_⟩⟩⟩
  · rintro rfl hv
    rw [reconcilePresent_same hr]
    cases v with
    | true => rfl
    | false => exact deassert_low (hv.resolve_right nofun).symm
  · rintro rfl rfl hline
    rw [reconcilePresent_same hr, reconcileDrop_same hr, if_pos hline]
    rfl
  · rw [reconcilePresent_unknown hr, adoptPresent_edge ht]
  · rw [reconcilePresent_unknown hr, adoptPresent_level ht, reconcileRaise_unknown hr, countMissed_zero,
      raiseEffect_level ((recordCount_workTrigger s i c).trans ht)]
    rfl

/-! ### The transmitter of a port -/

section transmitter
variable {s : State} {p : Port} {rest : List PortFrame} (hl : (s.port p).link = true) (hs : (s.port p).sending = none)
include hl hs

theorem probe_taken {n : Node} (hq : (s.port p).sendList = .probe n :: rest) : ∃ t, exec (.probe p) s = .next t ∧
    t.still = ((s.modPort p fun r => { r with sendList := rest, sending := some (.probe n) }).modNode p n
      fun r => { r with probeWaiting := false }).still := by
  change ∃ t, execProbe p s = _ ∧ _
  exact event_still (by simp only [receives_of hl hs, hq])

theorem rollcall_taken (hq : (s.port p).sendList = .rollcall :: rest) : ∃ t, exec (.rollcall p) s = .next t ∧
    t.still = (s.modPort p fun r => { r with sendList := rest, sending := some .rollcall }).still := by
  change ∃ t, execRollcall p s = _ ∧ _
  exact event_still (by simp only [receives_of hl hs, hq])

end transmitter

theorem portTransmission_completes (s : State) (p : Port) : ∃ t, exec (.portTransmissionComplete p) s = .next t ∧
    t.still = (s.modPort p fun r => { r with sending := none }).still := by
  change ∃ t, execPortTransmissionComplete p s = _ ∧ _
  exact event_still rfl

/-- Settles O21: the oldest frame is taken by kind, and a completion frees the transmitter (R99). -/
theorem portTransmitterTakesTheOldestFrame : Obligations.PortTransmitterTakesTheOldestFrame := fun s p _ =>
  ⟨fun hl hs => ⟨fun _ hq => probe_taken hl hs hq, rollcall_taken hl hs⟩, portTransmission_completes s p⟩

end Sys2Proof.Machine

/-!
# Frames as bytes

The bytes of every frame, in both directions, as chapter 11 lays them out, and the two check codes bit by bit (R28 to R30, R195 to R198).
-/

namespace Sys2Proof.Machine

-- One theorem is elaborated after the other: many at once need too many threads.
set_option Elab.async false

/-! ### The check codes -/

theorem crc8Bit_eq (x : Byte) : crc8Bit x = if x.getLsbD 7 then (x <<< 1) ^^^ 0x07 else x <<< 1 := by
  rw [crc8Bit, BitVec.msb_eq_getLsbD_last]
  rfl

theorem crc16Bit_eq (x : BitVec 16) : crc16Bit x = if x.getLsbD 15 then (x <<< 1) ^^^ 0x1021 else x <<< 1 := by
  rw [crc16Bit, BitVec.msb_eq_getLsbD_last]
  rfl

/-- One more byte goes through the CRC-8 in eight bits (R195). -/
theorem crc8_concat (bytes : List Byte) (b : Byte) : crc8 (bytes ++ [b]) = Nat.iterate crc8Bit 8 (crc8 bytes ^^^ b) := by
  rw [crc8, List.foldl_append]
  rfl

/-- A byte enters the CRC-16 at its high end (R196). -/
theorem shiftLeft_eq_append_zero (b : Byte) : ((b.setWidth 16 : BitVec 16) <<< (8 : Nat)) = b ++ (0 : Byte) := by
  have happ : (b ++ (0 : Byte) : BitVec (8 + 8)).toNat = b.toNat <<< 8 ||| 0 := BitVec.toNat_append ..
  rw [Nat.or_zero, Nat.shiftLeft_eq] at happ
  refine BitVec.eq_of_toNat_eq (Eq.trans ?_ happ.symm)
  rw [BitVec.toNat_shiftLeft, BitVec.toNat_setWidth, Nat.shiftLeft_eq]
  omega

/-- One more byte goes through the CRC-16 in eight bits (R196). -/
theorem crc16_concat (bytes : List Byte) (b : Byte) :
    crc16 (bytes ++ [b]) = Nat.iterate crc16Bit 8 (crc16 bytes ^^^ (b ++ (0 : Byte))) := by
  rw [crc16, List.foldl_append, ← shiftLeft_eq_append_zero]
  rfl

/-! ### The fields of a field frame -/

/-- Byte 0 of a field frame is read back as its kind and its node (R195). -/
theorem kindAndNode_read {k : Nat} (hk : k < 4) (n : Node) :
    (oneByte (k * 64 + n.val)).toNat / 64 = k ∧ nodeField (oneByte (k * 64 + n.val)) = n := by
  have hv : (oneByte (k * 64 + n.val)).toNat = k * 64 + n.val := by
    rw [oneByte, BitVec.toNat_ofNat]
    omega
  refine ⟨by omega, Fin.ext ?_⟩
  simp only [nodeField, hv]
  omega

/-- The byte of a line's count is read back as the count and bit 4 (R195). -/
theorem countByte_read (v : Bool) (c : RaiseCount) : countField (countByte v c) = c ∧ levelField (countByte v c) = v := by
  revert v c
  decide

theorem lineField_countByte (l : Line) (c : RaiseCount) : lineField (countByte (l = 1) c) = l := by
  have hv : (countByte (l = 1) c).getLsbD 4 = decide (l = 1) := (countByte_read _ c).2
  rw [lineField, hv]
  fin_cases l <;> rfl

section field
variable (p : Port) (n : Node) (b1 b2 : Byte)

theorem decodeField_raise : decodeField p (oneByte (0 * 64 + n.val)) b1 b2 = some (.raise p n (lineField b1) (countField b1)) := by
  obtain ⟨hk, hn⟩ := kindAndNode_read (k := 0) (by decide) n
  simp only [decodeField, hk, hn]

theorem decodeField_drop : decodeField p (oneByte (1 * 64 + n.val)) b1 b2 = some (.drop p n (lineField b1) (countField b1)) := by
  obtain ⟨hk, hn⟩ := kindAndNode_read (k := 1) (by decide) n
  simp only [decodeField, hk, hn]

theorem decodeField_present : decodeField p (oneByte (2 * 64 + n.val)) b1 b2 =
    some (.present p n (levelField b1) (countField b1) (levelField b2) (countField b2)) := by
  obtain ⟨hk, hn⟩ := kindAndNode_read (k := 2) (by decide) n
  simp only [decodeField, hk, hn]

/-- Kind code 3 is the bridge's own, and no node's (R30). -/
theorem decodeField_kind_three : decodeField p (oneByte (3 * 64 + n.val)) b1 b2 = none := by
  obtain ⟨hk, -⟩ := kindAndNode_read (k := 3) (by decide) n
  simp only [decodeField, hk]

end field

theorem receiveField_of_decode {p : Port} {b0 b1 b2 : Byte} {c : Instr} (h : decodeField p b0 b1 b2 = some c) :
    receiveField p (fieldFrameBytes b0 b1 b2) = c := by
  rw [receiveField, judgeField_fieldFrameBytes, h, Option.getD_some]

/-- The frame of a node is received as the command that it was (R28 to R30, R195). -/
theorem receiveField_fieldWire {c : Instr} (hw : wellFormed c = true) {p : Port} (hc : fieldArrival c = some p) {bytes : List Byte}
    (hb : fieldWire c = some bytes) : receiveField p bytes = c := by
  cases c <;> simp only [fieldArrival, reduceCtorEq, Option.some.injEq] at hc <;> subst hc <;>
    simp only [fieldWire, Option.some.injEq] at hb <;> subst hb
  case raise p n l count =>
    have hd := decodeField_raise p n (countByte (l = 1) count) 0
    rw [Nat.zero_mul, Nat.zero_add, lineField_countByte, (countByte_read _ count).1] at hd
    exact receiveField_of_decode hd
  case drop p n l count =>
    have hd := decodeField_drop p n (countByte (l = 1) count) 0
    rw [Nat.one_mul, lineField_countByte, (countByte_read _ count).1] at hd
    exact receiveField_of_decode hd
  case present p n v0 c0 v1 c1 =>
    have hd := decodeField_present p n (countByte v0 c0) (countByte v1 c1)
    obtain ⟨hc0, hv0⟩ := countByte_read v0 c0
    obtain ⟨hc1, hv1⟩ := countByte_read v1 c1
    rw [hc0, hv0, hc1, hv1] at hd
    exact receiveField_of_decode hd
  case fieldFrameDiscarded p bytes =>
    rw [receiveField, Option.isNone_iff_eq_none.mp hw, Option.getD_none]

/-- What a receiver makes of a field frame, bits outside its fields included (R30, R195). -/
theorem receiveField_kinds (p : Port) (n : Node) (b1 b2 : Byte) :
    receiveField p (fieldFrameBytes (oneByte (0 * 64 + n.val)) b1 b2) = .raise p n (lineField b1) (countField b1) ∧
    receiveField p (fieldFrameBytes (oneByte (1 * 64 + n.val)) b1 b2) = .drop p n (lineField b1) (countField b1) ∧
    receiveField p (fieldFrameBytes (oneByte (2 * 64 + n.val)) b1 b2) =
      .present p n (levelField b1) (countField b1) (levelField b2) (countField b2) ∧
    receiveField p (fieldFrameBytes (oneByte (3 * 64 + n.val)) b1 b2) =
      .fieldFrameDiscarded p (fieldFrameBytes (oneByte (3 * 64 + n.val)) b1 b2) := by
  refine ⟨receiveField_of_decode (decodeField_raise ..), receiveField_of_decode (decodeField_drop ..),
    receiveField_of_decode (decodeField_present ..), ?_⟩
  rw [receiveField, judgeField_fieldFrameBytes, decodeField_kind_three, Option.getD_none]

theorem extractLsb'_eq_countField (b : Byte) : b.extractLsb' 0 4 = countField b := by
  rw [countField, BitVec.setWidth_eq_extractLsb' (by decide)]

/-! ### Frames of the hosts -/

section lane
variable {k : LaneId} {w : Bool} {kind : Byte} {payload : List Byte}

theorem receiveLane_of_decode (hp : payload.length ≤ 60) {c : Instr} (h : decodeLane k w kind payload = some c) :
    receiveLane k w (laneFrameBytes kind payload) = c := by
  rw [receiveLane, judgeLane_laneFrameBytes k w kind payload hp, h, Option.getD_some]

/-- Whether a kind is a host's does not turn on the host wake input. -/
theorem decodeLane_isNone (v : Bool) : (decodeLane k w kind payload).isNone = (decodeLane k v kind payload).isNone := by
  unfold decodeLane
  split <;> rfl

/-- Whether a frame is discarded does not turn on the host wake input (R197). -/
theorem judgeLane_isNone (v : Bool) (bytes : List Byte) : (judgeLane k w bytes).isNone = (judgeLane k v bytes).isNone := by
  match bytes with
  | [] | [_] => rfl
  | kind :: len :: rest =>
    simp only [judgeLane, apply_ite Option.isNone, decodeLane_isNone v]

end lane

/-- The frame of a host is received as the command that it was (R197, R198). -/
theorem receiveLane_laneWire {c : Instr} (hf : wellFormed c = true) {k : LaneId} {w : Bool} (hc : laneArrival c = some k) {bytes : List Byte}
    (hb : laneWire c = some bytes) (ha : ∀ v, c = .parkAck k v → v = w) (hn : ∀ v, c = .parkNak k v → v = w) :
    receiveLane k w bytes = c := by
  cases c <;> simp only [laneArrival, reduceCtorEq, Option.some.injEq] at hc <;> subst hc <;>
    simp only [laneWire, Option.some.injEq] at hb <;> subst hb
  case hello | goodbye | retire | credit | ready => exact receiveLane_of_decode (by simp) rfl
  case mgmtRequest k payload => exact receiveLane_of_decode (of_decide_eq_true hf) rfl
  case parkAck k v => exact receiveLane_of_decode (by simp) (by rw [ha v rfl]; rfl)
  case parkNak k v => exact receiveLane_of_decode (by simp) (by rw [hn v rfl]; rfl)
  case laneFrameDiscarded k bytes =>
    have hj : judgeLane k w bytes = none := Option.isNone_iff_eq_none.mp ((judgeLane_isNone false bytes).trans hf)
    rw [receiveLane, hj, Option.getD_none]

/-! ### Frames of the bridge -/

/-- A body followed by its CRC-16, high byte first (R196). -/
def checked16 (body : List Byte) : List Byte := body ++ [(crc16 body).extractLsb' 8 8, (crc16 body).extractLsb' 0 8]

theorem laneFrameBytes_eq_checked16 (kind : Byte) (payload : List Byte) :
    laneFrameBytes kind payload = checked16 (kind :: oneByte payload.length :: payload) := by
  rw [checked16, ← twoBytes_toNat]
  rfl

theorem probe_kindAndNode (n : Node) : oneByte (192 + n.val) = 0xC0 ||| oneByte n.val := by
  revert n
  decide

/-- The outcome codes are the places in the table of R152. -/
theorem outcomeCode_of_place {n : Nat} {o : MgmtOutcome}
    (h : [MgmtOutcome.done, .refusedBusy, .refusedRights, .refusedRange, .refusedUnknown, .refusedState, .refusedStagingOwned,
      .refusedStagingFull, .refusedNoStaging, .refusedValidation, .refusedLastManager, .refusedSelf, .refusedInProgress][n]? = some o) :
    outcomeCode o = oneByte n := by
  obtain ⟨hn, rfl⟩ := List.getElem?_eq_some_iff.mp h
  revert n
  decide

theorem noticeNumber_of_place {n : Nat} {kind : NoticeKind} (h : noticeKinds[n]? = some kind) : kind.number = n + 1 := by
  obtain ⟨hn, rfl⟩ := List.getElem?_eq_some_iff.mp h
  revert n
  decide

theorem response_wire (tag op : Byte) (o : MgmtOutcome) (data : List Byte) :
    (LaneFrame.response { tag := tag, op := op, outcome := o, data := data }).wire =
      checked16 ([0x31, oneByte (3 + data.length), tag, op, outcomeCode o] ++ data) := by
  rw [LaneFrame.wire, laneFrameBytes_eq_checked16, Nat.add_comm 3]
  rfl

theorem notice_wire (kind : NoticeKind) (detail repeats : Nat) :
    (LaneFrame.notice kind detail repeats).wire =
      checked16 [0x38, 4, oneByte kind.number, oneByte (detail / 256), oneByte detail, oneByte repeats] := by
  rw [LaneFrame.wire, laneFrameBytes_eq_checked16]
  rfl

theorem entrySource_entryIndex (p : Port) (n : Node) (l : Line) :
    entryPort (entryIndex p n l) = p ∧ entryNode (entryIndex p n l) = n ∧ entryLine (entryIndex p n l) = l := by
  simp only [entryIndex, entryPort, entryNode, entryLine, Fin.ext_iff]
  omega

theorem event_wire (v : Byte) (p : Port) (n : Node) (l : Line) (prio : Priority) (trigger : Trigger) (count : Nat) :
    (LaneFrame.event v (entryIndex p n l) prio trigger count).wire =
      checked16 [0x20, 4, v, oneByte (p.val * 64 + n.val), oneByte (triggerCode trigger * 128 + prio.val * 16 + l.val), oneByte count] := by
  obtain ⟨hp, hn, hl⟩ := entrySource_entryIndex p n l
  rw [LaneFrame.wire, laneFrameBytes_eq_checked16, hp, hn, hl]
  rfl

theorem output_of_sending (s : State) (p : Port) (k : LaneId) :
    (∀ f, (s.port p).sending = some f → portOutput s p = f.wire) ∧ (∀ f, (s.lane k).sending = some f → laneOutput s k = f.wire) :=
  ⟨fun f h => by simp only [portOutput, h], fun f h => by simp only [laneOutput, h]⟩

/-- Settles O59: what is received is what was sent, and what the bridge sends is its layout with its check code (R28 to R30, R195 to R198). -/
theorem framesAreReceivedAsSent : Obligations.FramesAreReceivedAsSent := by
  refine ⟨fun c bytes hf => ⟨fun p hc hb => receiveField_fieldWire hf hc hb,
      fun k w hc hb h => receiveLane_laneWire hf hc hb h.1 h.2⟩, ?_, fun p n b1 b2 => ?_, fun k w payload hp => ?_, ?_, ?_,
    output_of_sending⟩
  · intro step8 step16
    have h8 : crc8Bit = step8 := funext crc8Bit_eq
    have h16 : crc16Bit = step16 := funext crc16Bit_eq
    rw [← h8, ← h16]
    exact ⟨rfl, rfl, fun bytes b => ⟨crc8_concat bytes b, crc16_concat bytes b⟩⟩
  · simp only [extractLsb'_eq_countField]
    exact receiveField_kinds p n b1 b2
  · intro received first
    have hfirst : payload.headD 0 = first := by cases payload <;> rfl
    have h : ∀ {kind c}, decodeLane k w kind payload = some c → received kind = c := receiveLane_of_decode hp
    rw [← hfirst]
    exact ⟨h rfl, h rfl, h rfl, h rfl, h rfl, h rfl, h rfl, h rfl⟩
  · exact ⟨rfl, fun n => by rw [PortFrame.wire, probe_kindAndNode]; rfl⟩
  · refine ⟨laneFrameBytes_eq_checked16, laneFrameBytes_eq_checked16 _ _, laneFrameBytes_eq_checked16 _ _,
      fun k => laneFrameBytes_eq_checked16 _ _, fun m => laneFrameBytes_eq_checked16 _ _, fun n tag op o data ho => ?_,
      fun n detail repeats kind hk => ?_, fun v p n l prio count => ⟨rfl, ?_, ?_⟩⟩
    · rw [response_wire, outcomeCode_of_place ho]
      rfl
    · rw [notice_wire, noticeNumber_of_place hk]
      exact ⟨rfl, rfl⟩
    · rw [event_wire, triggerCode, Nat.zero_mul, Nat.zero_add]
      rfl
    · rw [event_wire, triggerCode, Nat.one_mul]
      rfl

end Sys2Proof.Machine

/-!
# A port's link lost and gained

The absence of several nodes of a port in turn, and with it the loss of the port's link given whole (R102, R103, R105, R106).
-/

namespace Sys2Proof.Machine

-- One theorem is elaborated after the other: many at once need too many threads.
set_option Elab.async false

/-! ### One absence -/

section one
variable (p : Port) (n : Node) (s : State)

theorem nodeAbsence_frame : DeliveryFrame (absentNode p n s) (nodeAbsence p n s) :=
  ((absentLine_frame _ _).trans (absentLine_frame _ _)).trans (Delivers.raiseNotice ..).frame

/-- The presence record of an absent node (R102). -/
def absentRecord : NodeRecord := { presence := .absent, quietTimer := none, probeWaiting := false }

theorem nodeAbsence_node (q : Port) (m : Node) :
    (nodeAbsence p n s).node q m = if q = p ∧ m = n then absentRecord else s.node q m := by
  have hn : (nodeAbsence p n s).nodes = (s.modNode p n fun _ => absentRecord).nodes := by rw [nodeAbsence_frame]; rfl
  rw [State.node, hn]
  exact node_modNode ..

/-- A send list that is empty has no PROBE to lose. -/
theorem nodeAbsence_ports (h : (s.port p).sendList = []) : (nodeAbsence p n s).ports = s.ports := by
  have hp : s.modPort p (fun r => { r with sendList := r.sendList.filter (fun f => decide (f ≠ .probe n)) }) = s :=
    modPort_self (by rw [h, List.filter_nil, ← h])
  have hf : (nodeAbsence p n s).ports = (absentNode p n s).ports := by rw [nodeAbsence_frame]
  exact hf.trans (congrArg State.ports hp :)

/-- Node absence raises NODE_LOST, and no other notice but TABLE_FAULT (R20, R102). -/
theorem nodeAbsence_notice {m : NoticeKind} (hm : m ≠ .tableFault) :
    (nodeAbsence p n s).notice m =
      if m = .nodeLost then (s.notice .nodeLost).raised (p.val * 64 + n.val) else s.notice m := by
  have h := (absentLine_notices (entryIndex p n 0) (absentNode p n s)).trans (absentLine_notices (entryIndex p n 1) _)
  rw [nodeAbsence_eq, raiseNotice_notice, h.1 m hm, h.1 .nodeLost nofun]
  rfl

end one

/-- The line is deasserted, with its raise count UNKNOWN (R103). -/
def LineGone (e : Entry) : Prop := e.line = false ∧ e.raiseCount = none

theorem EntryDelivers.lineGone {e f : Entry} (h : EntryDelivers e f) (he : LineGone e) : LineGone f := by
  rw [h.1]
  exact he

/-- Node absence at one entry, in any state: the line is gone, and the other entries are moved at most (R103). -/
theorem absentLine_delivers (i : EntryIdx) (s : State) :
    LineGone ((absentLine i s).entry i) ∧ ∀ j, j ≠ i → EntryDelivers (s.entry j) ((absentLine i s).entry j) := by
  refine ⟨?_, fun j hj => ?_⟩
  · rw [absentLine, entry_modEntry_same]
    refine ⟨?_, rfl⟩
    change ((deassert i s).entry i).line = false
    rw [deassert_eq]
    split
    · assumption
    · split
      · rw [entry_modEntry_same]
        exact ((Delivers.withdraw i _).line i).trans (by rw [entry_modEntry_same])
      · rw [entry_modEntry_same]
  · rw [absentLine, entry_modEntry_ne _ hj]
    exact (Takes.deassert i s).2.2.1 j hj

/-- Node absence in any state: both lines of the node are gone, and the other entries are moved at most (R102, R103). -/
theorem nodeAbsence_delivers (p : Port) (n : Node) (s : State) :
    (∀ l, LineGone ((nodeAbsence p n s).entry (entryIndex p n l))) ∧
    ∀ i, (∀ l, i ≠ entryIndex p n l) → EntryDelivers (s.entry i) ((nodeAbsence p n s).entry i) := by
  obtain ⟨h0, hd0⟩ := absentLine_delivers (entryIndex p n 0) (absentNode p n s)
  obtain ⟨h1, hd1⟩ := absentLine_delivers (entryIndex p n 1) (absentLine (entryIndex p n 0) (absentNode p n s))
  have hne : entryIndex p n 0 ≠ entryIndex p n 1 := fun e => absurd (entryIndex_inj.mp e).2.2 (by decide)
  simp only [nodeAbsence_eq, raiseNotice_entry]
  refine ⟨fun l => ?_, fun i hi => (hd0 i (hi 0)).trans (hd1 i (hi 1))⟩
  fin_cases l
  · exact (hd1 _ hne).lineGone h0
  · exact h1

theorem PlacementSound.nodeAbsence {s : State} (h : PlacementSound s) (p : Port) (n : Node) : PlacementSound (nodeAbsence p n s) :=
  (nodeAbsence_deeds p n s).placement h

/-! ### Several absences in turn -/

/-- Node absence of several nodes of a port, in the order given (R105). -/
def absences (p : Port) (ns : List Node) (s : State) : State := ns.foldl (fun u n => nodeAbsence p n u) s

/-- Nothing changed but the tables that node absence writes. -/
def AbsenceFrame (s t : State) : Prop :=
  t = { s with entries := t.entries, lanes := t.lanes, notices := t.notices, nodes := t.nodes, ports := t.ports }

theorem AbsenceFrame.trans {s t u : State} (h : AbsenceFrame s t) (h' : AbsenceFrame t u) : AbsenceFrame s u := by
  unfold AbsenceFrame at *
  rw [h', h]

theorem DeliveryFrame.absenceFrame {s t : State} (h : DeliveryFrame s t) : AbsenceFrame s t := by
  rw [h]
  rfl

section several
variable (p : Port) (ns : List Node) (s : State)

theorem absences_frame : AbsenceFrame s (absences p ns s) := by
  induction ns generalizing s with
  | nil => rfl
  | cons n rest ih =>
    have h : AbsenceFrame s (absentNode p n s) := rfl
    exact (h.trans (nodeAbsence_frame p n s).absenceFrame).trans (ih _)

theorem absences_node (q : Port) (m : Node) :
    (absences p ns s).node q m = if q = p ∧ m ∈ ns then absentRecord else s.node q m := by
  induction ns generalizing s with
  | nil => simp [absences]
  | cons n rest ih =>
    refine (ih _).trans ?_
    rw [nodeAbsence_node]
    by_cases hr : q = p ∧ m ∈ rest
    · simp [hr]
    · rw [if_neg hr]
      refine if_congr ?_ rfl rfl
      rw [List.mem_cons, and_or_left, or_iff_left hr]

theorem absences_ports (h : (s.port p).sendList = []) : (absences p ns s).ports = s.ports := by
  induction ns generalizing s with
  | nil => rfl
  | cons n rest ih =>
    have hp := nodeAbsence_ports p n s h
    exact (ih _ (by rw [State.port, hp]; exact h)).trans hp

/-- Each lost node raises NODE_LOST with its own detail (R102). -/
theorem absences_nodeLost : (absences p ns s).notice .nodeLost =
    (ns.map fun n => p.val * 64 + n.val).foldl (fun r d => r.raised d) (s.notice .nodeLost) := by
  induction ns generalizing s with
  | nil => rfl
  | cons n rest ih =>
    refine (ih _).trans ?_
    have h : (nodeAbsence p n s).notice .nodeLost = (s.notice .nodeLost).raised (p.val * 64 + n.val) :=
      (nodeAbsence_notice p n s (by decide)).trans (if_pos rfl)
    exact congrArg (List.foldl _ · _) h

theorem absences_notice {m : NoticeKind} (hm : m ≠ .tableFault) (hl : m ≠ .nodeLost) : (absences p ns s).notice m = s.notice m := by
  induction ns generalizing s with
  | nil => rfl
  | cons n rest ih => exact (ih _).trans ((nodeAbsence_notice p n s hm).trans (if_neg hl))

end several

/-- Several absences at the Steering Table, from what one of them does: `Own` to the entries of its node, `Moved` to the others. `Inv` is what
holds between them. -/
theorem absences_entry {Inv : State → Prop} {Own : Entry → Entry → Prop} {Moved : EntryIdx → Entry → Entry → Prop} {p : Port}
    (hinv : ∀ n u, Inv u → Inv (nodeAbsence p n u))
    (hown : ∀ n u l, Inv u → Own (u.entry (entryIndex p n l)) ((nodeAbsence p n u).entry (entryIndex p n l)))
    (hmoved : ∀ n u i, Inv u → (∀ l, i ≠ entryIndex p n l) → Moved i (u.entry i) ((nodeAbsence p n u).entry i))
    (refl : ∀ i e, Moved i e e) (trans : ∀ {i e f g}, Moved i e f → Moved i f g → Moved i e g)
    (after : ∀ {i e f g}, Moved i e f → Own f g → Own e g) (before : ∀ {i e f g}, Own e f → Moved i f g → Own e g)
    {ns : List Node} (hn : ns.Nodup) {s : State} (hs : Inv s) :
    (∀ n ∈ ns, ∀ l, Own (s.entry (entryIndex p n l)) ((absences p ns s).entry (entryIndex p n l))) ∧
    ∀ i, (∀ n ∈ ns, ∀ l, i ≠ entryIndex p n l) → Moved i (s.entry i) ((absences p ns s).entry i) := by
  induction ns generalizing s with
  | nil => exact ⟨nofun, fun i _ => refl i _⟩
  | cons n rest ih =>
    obtain ⟨hnot, hrest⟩ := List.nodup_cons.mp hn
    obtain ⟨ihown, ihmoved⟩ := ih hrest (hinv n s hs)
    have hne : ∀ {a b : Node}, a ≠ b → ∀ l o, entryIndex p a l ≠ entryIndex p b o := fun h l o e => h (entryIndex_inj.mp e).2.1
    refine ⟨fun m hm l => ?_, fun i hi => ?_⟩
    · rcases List.mem_cons.mp hm with rfl | hm
      · exact before (hown m s l hs) (ihmoved _ fun a ha => hne (ne_of_mem_of_not_mem ha hnot).symm l)
      · exact after (hmoved n s _ hs (hne (ne_of_mem_of_not_mem hm hnot) l)) (ihown m hm l)
    · exact trans (hmoved n s i hs (hi n List.mem_cons_self)) (ihmoved i fun m hm => hi m (List.mem_cons_of_mem _ hm))

section entries
variable {p : Port} {ns : List Node} (hn : ns.Nodup) (s : State)
include hn

theorem absences_lineGone :
    (∀ n ∈ ns, ∀ l, LineGone ((absences p ns s).entry (entryIndex p n l))) ∧
    ∀ i, (∀ n ∈ ns, ∀ l, i ≠ entryIndex p n l) → EntryDelivers (s.entry i) ((absences p ns s).entry i) :=
  absences_entry (Inv := fun _ => True) (Own := fun _ => LineGone) (Moved := fun _ => EntryDelivers) (fun _ _ _ => trivial)
    (fun n u l _ => (nodeAbsence_delivers p n u).1 l) (fun n u i _ => (nodeAbsence_delivers p n u).2 i) (fun _ => .refl) .trans
    (fun _ h => h) (fun h h' => h'.lineGone h) hn trivial

variable {s}

theorem absences_falls (hs : PlacementSound s) :
    ∀ n ∈ ns, ∀ l, EntryFalls (s.entry (entryIndex p n l)) ((absences p ns s).entry (entryIndex p n l)) :=
  (absences_entry (Moved := EntryPromotes) (fun n _ h => h.nodeAbsence p n) (fun n _ l h => (nodeAbsence_entries h p n).1 l)
    (fun n _ i h => (nodeAbsence_entries h p n).2 i) .refl .trans .after .before hn hs).1

end entries

/-! ### A notice raised several times -/

/-- Raises of a set kind are repeats (R182). -/
theorem raises_set {r : NoticeRecord} (h : r.isSet = true) (d : Nat) (ds : List Nat) :
    (d :: ds).foldl (fun r d => r.raised d) r = { r with repeats := min 255 (r.repeats + (d :: ds).length) } := by
  induction ds generalizing r d with
  | nil => exact raised_of_isSet h d
  | cons e rest ih =>
    have hr := raised_of_isSet h d
    rw [List.foldl_cons, ih (raised_isSet d r), hr]
    simp only [List.length_cons, NoticeRecord.mk.injEq, true_and]
    omega

/-- The first raise of a clear kind gives its detail, and the others are repeats (R182). -/
theorem raises_clear {r : NoticeRecord} (h : r.isSet = false) (d : Nat) (ds : List Nat) :
    (d :: ds).foldl (fun r d => r.raised d) r =
      { isSet := true, sent := r.sent, detail := d, repeats := min 255 ds.length } := by
  have hr : r.raised d = { isSet := true, sent := r.sent, detail := d, repeats := 0 } := if_neg (by simp [h])
  rw [List.foldl_cons, hr]
  cases ds with
  | nil => rfl
  | cons e rest => rw [raises_set rfl, Nat.zero_add]

theorem raises_isSet (r : NoticeRecord) (d : Nat) (ds : List Nat) : ((d :: ds).foldl (fun r d => r.raised d) r).isSet = true := by
  cases h : r.isSet with
  | true => rw [raises_set h]; exact h
  | false => rw [raises_clear h]

/-! ### The loss of the link -/

/-- The nodes of a port that are PRESENT or DOUBTED, in ascending number (R105). -/
def knownNodes (p : Port) (s : State) : List Node := (List.finRange 64).filter fun n => (s.node p n).known

theorem mem_knownNodes {p : Port} {s : State} {n : Node} :
    n ∈ knownNodes p s ↔ (s.node p n).presence = .present ∨ (s.node p n).presence = .doubted := by
  simp [knownNodes, NodeRecord.known]

theorem not_mem_knownNodes {p : Port} {s : State} {n : Node} (h : (s.node p n).presence = .unknown ∨ (s.node p n).presence = .absent) :
    n ∉ knownNodes p s := by
  rw [mem_knownNodes]
  rcases h with h | h <;> simp [h]

theorem knownNodes_ascending (p : Port) (s : State) : (knownNodes p s).Pairwise (· < ·) := (List.pairwise_lt_finRange 64).filter _

theorem knownNodes_nodup (p : Port) (s : State) : (knownNodes p s).Nodup := (knownNodes_ascending p s).imp Fin.ne_of_lt

/-- An absence leaves the other nodes known or not as they were, so that the nodes to treat are given by the state before. -/
theorem foldl_known (p : Port) (ns : List Node) (hn : ns.Nodup) (s u : State) (h : ∀ n ∈ ns, u.node p n = s.node p n) :
    ns.foldl (fun u n => if (u.node p n).known then nodeAbsence p n u else u) u = absences p (ns.filter fun n => (s.node p n).known) u := by
  induction ns generalizing u with
  | nil => rfl
  | cons n rest ih =>
    obtain ⟨hnot, hrest⟩ := List.nodup_cons.mp hn
    have hu : ∀ m ∈ rest, u.node p m = s.node p m := fun m hm => h m (List.mem_cons_of_mem _ hm)
    rw [List.foldl_cons, h n List.mem_cons_self, List.filter_cons]
    by_cases hk : (s.node p n).known = true
    · rw [if_pos hk, if_pos hk]
      refine ih hrest _ fun m hm => ?_
      rw [nodeAbsence_node, if_neg fun e : p = p ∧ m = n => hnot (e.2 ▸ hm), hu m hm]
    · rw [if_neg hk, if_neg hk]
      exact ih hrest u hu

/-- The port as the loss of its link leaves it, before the absences (R105). -/
def portDown (p : Port) (s : State) : State := s.modPort p fun r => { r with link := false, sendList := [], sending := none }

theorem portDown_sendList (p : Port) (s : State) : ((portDown p s).port p).sendList = [] := by rw [portDown, port_modPort_same]

theorem portLoss_eq (p : Port) (s : State) :
    portLoss p s = raiseNotice .portLink p.val (absences p (knownNodes p s) (portDown p s)) := by
  rw [knownNodes, ← foldl_known p _ (List.nodup_finRange 64) s (portDown p s) fun _ _ => rfl]
  rfl

theorem portLoss_entry (p : Port) (s : State) (i : EntryIdx) :
    (portLoss p s).entry i = (absences p (knownNodes p s) (portDown p s)).entry i := by rw [portLoss_eq, raiseNotice_entry]

theorem portLoss_frame (p : Port) (s : State) : AbsenceFrame s (portLoss p s) := by
  have h : AbsenceFrame s (portDown p s) := rfl
  rw [portLoss_eq]
  exact (h.trans (absences_frame ..)).trans (Delivers.raiseNotice ..).frame.absenceFrame

theorem portLoss_ports (p : Port) (s : State) : (portLoss p s).ports = (portDown p s).ports := by
  rw [portLoss_eq, (Delivers.raiseNotice ..).frame]
  exact absences_ports _ _ _ (portDown_sendList p s)

theorem portLoss_node (p : Port) (s : State) (q : Port) (n : Node) :
    (portLoss p s).node q n = if q = p ∧ n ∈ knownNodes p s then absentRecord else s.node q n := by
  rw [portLoss_eq, (Delivers.raiseNotice ..).frame]
  exact absences_node ..

theorem portLoss_portLink (p : Port) (s : State) : (portLoss p s).notice .portLink = (raiseNotice .portLink p.val s).notice .portLink := by
  rw [portLoss_eq, raiseNotice_notice, raiseNotice_notice, absences_notice _ _ _ (by decide) (by decide)]
  rfl

theorem portLoss_nodeLost (p : Port) (s : State) : (portLoss p s).notice .nodeLost =
    ((knownNodes p s).map fun n => p.val * 64 + n.val).foldl (fun r d => r.raised d) (s.notice .nodeLost) := by
  rw [portLoss_eq, raiseNotice_notice, if_neg nofun, absences_nodeLost]
  rfl

/-- The entries of other nodes keep what R102 does not name. -/
theorem portLoss_keeps {p q : Port} {s : State} {n : Node} (h : q = p → n ∉ knownNodes p s) (l : Line) :
    ((portLoss p s).entry (entryIndex q n l)).line = (s.entry (entryIndex q n l)).line ∧
    ((portLoss p s).entry (entryIndex q n l)).raiseCount = (s.entry (entryIndex q n l)).raiseCount ∧
    ((portLoss p s).entry (entryIndex q n l)).pendingCount = (s.entry (entryIndex q n l)).pendingCount := by
  have hd := (absences_lineGone (p := p) (knownNodes_nodup p s) (portDown p s)).2 (entryIndex q n l) fun m hm o e => by
    obtain ⟨hq, rfl, -⟩ := entryIndex_inj.mp e
    exact h hq hm
  rw [portLoss_entry, hd.1]
  exact ⟨rfl, rfl, rfl⟩

theorem portLinkLoss_next {s : State} {p : Port} (h : (s.port p).link = true) :
    exec (.portLinkLoss p) s = .next (settle none s (portLoss p s)) := by
  change execPortLinkLoss p s = _
  rw [execPortLinkLoss, event_next, if_pos h]

theorem portLinkGained_next {s : State} {p : Port} (h : (s.port p).link = false) :
    exec (.portLinkGained p) s = .next (settle none s (portGain p s)) := by
  change execPortLinkGained p s = _
  rw [execPortLinkGained, event_next, if_neg (by simp [h])]

/-- NODE_LOST after the loss of a link: the lowest lost node is the detail of a kind that was clear (R105, R182). -/
theorem portLoss_nodeLost_cons {p : Port} {s : State} {n : Node} {rest : List Node} (hk : knownNodes p s = n :: rest) :
    (portLoss p s).notice .nodeLost =
      if (s.notice .nodeLost).isSet = true then
        { s.notice .nodeLost with repeats := min 255 ((s.notice .nodeLost).repeats + (n :: rest).length) }
      else { isSet := true, sent := (s.notice .nodeLost).sent, detail := p.val * 64 + n.val, repeats := rest.length } := by
  have hlen : (n :: rest).length ≤ 64 := by simpa [hk] using (knownNodes_nodup p s).length_le_card
  rw [List.length_cons] at hlen
  rw [portLoss_nodeLost, hk, List.map_cons]
  split
  · next hr => rw [raises_set hr, List.length_cons, List.length_map, List.length_cons]
  · next hr => rw [raises_clear (Bool.not_eq_true _ ▸ hr), List.length_map, Nat.min_eq_right (by omega)]

/-- Settles O20: the link lost, as absences of the known nodes in turn, and the link gained (R105, R106). -/
theorem portLinkLostAndGained : Obligations.PortLinkLostAndGained := by
  refine fun s p => ⟨fun hl => ⟨_, portLinkLoss_next hl, ?_⟩, fun hl hq => ⟨_, portLinkGained_next hl, ?_⟩⟩
  · have hframe := portLoss_frame p s
    simp only [settle_ports, settle_notice, settle_entry, settle_node, settle_groups, settle_staging, settle_sweep,
      settle_manager]
    refine ⟨?_, fun lost hasc hmem => ?_, fun hpl n l hn => ?_, fun n l hn => ?_, portLoss_ports p s, portLoss_portLink p s,
      fun n hn => ⟨?_, ?_, fun l => ?_⟩, fun n hn => ?_, fun q n hq => ⟨?_, ?_⟩, ?_, ?_, ?_, ?_⟩
    · rw [settle_still, portLoss]
      simp only [NodeRecord.known, decide_eq_true_eq]
    · have hlost : lost = knownNodes p s :=
        hasc.eq_of_mem_iff (knownNodes_ascending p s) fun n => (hmem n).trans mem_knownNodes.symm
      cases lost with
      | nil => rw [portLoss_nodeLost, ← hlost]; rfl
      | cons n rest => exact portLoss_nodeLost_cons hlost.symm
    · obtain ⟨-, -, h⟩ := absences_falls (p := p) (s := portDown p s) (knownNodes_nodup p s)
        (hpl.congr (fun _ => rfl) (fun _ => rfl) fun _ => rfl) n (mem_knownNodes.mpr hn) l
      rw [portLoss_entry]
      exact h
    · exact portLoss_keeps (fun _ => not_mem_knownNodes hn) l
    · rw [portLoss_node, if_pos ⟨rfl, mem_knownNodes.mpr hn⟩]
      rfl
    · rw [portLoss_nodeLost]
      obtain ⟨a, b, hab⟩ := List.exists_cons_of_ne_nil (List.ne_nil_of_mem (mem_knownNodes.mpr hn))
      rw [hab, List.map_cons]
      exact raises_isSet ..
    · rw [portLoss_entry]
      exact (absences_lineGone (knownNodes_nodup p s) _).1 n (mem_knownNodes.mpr hn) l
    · rw [portLoss_node, if_neg fun h => not_mem_knownNodes hn h.2]
    · rw [portLoss_node, if_neg fun h => hq h.1]
    · exact portLoss_keeps fun e => absurd e hq
    all_goals rw [hframe]
  · have hg : portGain p s = raiseNotice .portLink (4 + p.val) (s.modPort p fun r => { r with link := true, sendList := [.rollcall] }) := by
      rw [portGain, State.modPort, hq]
      rfl
    rw [settle_still, hg]

end Sys2Proof.Machine

/-!
# The lane chosen, and a HELLO on a lane that is not live

The choice of the Lane Chooser under either policy (R51 to R56), and the bring-up of a lane by a HELLO (R119, R75, R59).
-/

namespace Sys2Proof.Machine

-- One theorem is elaborated after the other: many at once need too many threads.
set_option Elab.async false

/-! ### The choice of a lane -/

theorem LaneState.live_iff (l : LaneState) : l.live = true ↔ l ≠ .down ∧ l ≠ .disabled := by
  cases l <;> simp [LaneState.live]

section choice
variable {s : State}

theorem leastLoaded_eq_none {ks : List LaneId} (h : leastLoaded s ks = none) : ks = [] := by
  by_contra hne
  obtain ⟨k, hk⟩ := leastLoaded_isSome s hne
  rw [hk] at h
  cases h

/-- The least loaded of a list is less loaded than the lanes before it and not more loaded than those after it (R55). -/
theorem leastLoaded_eq_some_iff {ks : List LaneId} {k : LaneId} :
    leastLoaded s ks = some k ↔
      ∃ a b, ks = a ++ k :: b ∧ (∀ j ∈ a, load s k < load s j) ∧ ∀ j ∈ b, load s k ≤ load s j := by
  induction ks generalizing k with
  | nil => simp [leastLoaded]
  | cons j rest ih =>
    constructor
    · intro h
      cases hr : leastLoaded s rest with
      | none =>
        cases leastLoaded_eq_none hr
        cases h
        exact ⟨[], [], rfl, by simp, by simp⟩
      | some m =>
        obtain ⟨a, b, rfl, ha, hb⟩ := ih.mp hr
        simp only [leastLoaded, hr] at h
        split at h
        · next hle =>
          cases h
          have hleast : ∀ x ∈ a ++ m :: b, load s m ≤ load s x :=
            List.forall_mem_append.mpr ⟨fun x hx => (ha x hx).le, List.forall_mem_cons.mpr ⟨le_rfl, hb⟩⟩
          exact ⟨[], _, rfl, by simp, fun x hx => hle.trans (hleast x hx)⟩
        · next hlt =>
          cases h
          exact ⟨j :: a, b, rfl, List.forall_mem_cons.mpr ⟨Nat.lt_of_not_le hlt, ha⟩, hb⟩
    · rintro ⟨a, b, h, ha, hb⟩
      cases a with
      | nil =>
        obtain ⟨rfl, rfl⟩ := List.cons.inj h
        cases hr : leastLoaded s rest with
        | none => simp only [leastLoaded, hr]
        | some m => simp only [leastLoaded, hr, if_pos (hb m (leastLoaded_mem s hr))]
      | cons x a =>
        obtain ⟨rfl, rfl⟩ := List.cons.inj h
        obtain ⟨hlt, ha⟩ := List.forall_mem_cons.mp ha
        simp only [leastLoaded, ih.mpr ⟨a, b, rfl, ha, hb⟩, if_neg (Nat.not_le.mpr hlt)]

variable {g : GroupId} {k : LaneId}

/-- PREFER chooses the first eligible lane of the preference list (R54). -/
theorem chooseLane_prefer (h : (s.group g).policy = .prefer) :
    chooseLane s g = some k ↔
      ∃ a b, (s.group g).lanes = a ++ k :: b ∧ s.live k = true ∧ ∀ j ∈ a, s.live j = false := by
  simp only [chooseLane, h, candidates, List.head?_filter, List.find?_eq_some_iff_append, Bool.not_eq_eq_eq_not, Bool.not_true]
  exact ⟨fun ⟨hk, a, b, hl, ha⟩ => ⟨a, b, hl, hk, ha⟩, fun ⟨a, b, hl, hk, ha⟩ => ⟨hk, a, b, hl, ha⟩⟩

/-- BALANCE chooses the eligible lane with the least load, and the earliest of several (R55). -/
theorem chooseLane_balance (h : (s.group g).policy = .balance) :
    chooseLane s g = some k ↔
      ∃ a b, (s.group g).lanes = a ++ k :: b ∧ s.live k = true ∧
        (∀ j ∈ a, s.live j = true → load s k < load s j) ∧ ∀ j ∈ b, s.live j = true → load s k ≤ load s j := by
  simp only [chooseLane, h, candidates, leastLoaded_eq_some_iff]
  constructor
  · rintro ⟨_, _, hl, ha, hb⟩
    obtain ⟨before, tail, hlanes, rfl, ht⟩ := List.filter_eq_append_iff.mp hl
    obtain ⟨passed, after, rfl, hp, hk, rfl⟩ := List.filter_eq_cons_iff.mp ht
    refine ⟨before ++ passed, after, by rw [hlanes, List.append_assoc], hk, fun j hj hlive => ?_, fun j hj hlive => hb j (List.mem_filter.mpr ⟨hj, hlive⟩)⟩
    rcases List.mem_append.mp hj with hj | hj
    · exact ha j (List.mem_filter.mpr ⟨hj, hlive⟩)
    · exact absurd hlive (hp j hj)
  · rintro ⟨a, b, hl, hk, ha, hb⟩
    refine ⟨a.filter s.live, b.filter s.live, by rw [hl, List.filter_append, List.filter_cons_of_pos hk], fun j hj => ?_, fun j hj => ?_⟩
    · obtain ⟨hj, hlive⟩ := List.mem_filter.mp hj
      exact ha j hj hlive
    · obtain ⟨hj, hlive⟩ := List.mem_filter.mp hj
      exact hb j hj hlive

end choice

theorem load_eq (s : State) (k : LaneId) : load s k = (s.lane k).queue.length + (s.lane k).held.length + (boundSet k s).length := by
  rw [load, boundCount, boundSet, length_rowsWhere]

/-- Settles O8: the first of the candidates, the first of the least loaded of them, and what a load counts (R51 to R56). -/
theorem choiceOfALane : Obligations.ChoiceOfALane := fun s g =>
  ⟨fun k => (s.lane k).state.live_iff, chooseLane_eq_none s g, fun _ => chooseLane_prefer, fun _ => chooseLane_balance,
    fun k => ⟨boundSet k s, boundSet_nodup k s, boundSet_mem k s, load_eq s k⟩⟩

/-! ### A HELLO on a lane that is not live -/

section hello
variable {s : State} {k : LaneId} {m : Byte}

theorem validLimit_iff : validLimit m = true ↔ 1 ≤ m.toNat ∧ m.toNat ≤ 64 := decide_eq_true_iff

/-- The STRANDED entries whose group names lane `k`, in ascending index (R59). -/
def strandedNaming (k : LaneId) (s : State) : List EntryIdx := strandedWhere (fun g => decide (k ∈ (s.group g).lanes)) s

theorem strandedNaming_mem (i : EntryIdx) :
    i ∈ strandedNaming k s ↔ (s.entry i).state = .stranded ∧ k ∈ (s.group (s.entry i).image.group).lanes := by
  rw [strandedNaming, strandedWhere_mem, decide_eq_true_eq]

theorem strandedNaming_ascending : (strandedNaming k s).Pairwise (· < ·) := by
  rw [strandedNaming, strandedWhere]
  exact rowsWhere_ascending _ _

/-- Bring-up sets the lane and then offers the stranded entries that may want it (R119, R59). -/
theorem helloDown_valid (h1 : 1 ≤ m.toNat) (h64 : m.toNat ≤ 64) :
    helloDown k m s =
      (strandedNaming k s).foldl (fun u i => offer i u) (s.modLane k fun l =>
        { l with state := .active, helloReply := some .ack, creditLimit := some m.toNat, availableCredit := m.toNat }) :=
  if_pos (validLimit_iff.mpr ⟨h1, h64⟩)

theorem helloDown_invalid (h : m.toNat = 0 ∨ 64 < m.toNat) :
    helloDown k m s = s.modLane k fun l => { l with helloReply := some (.nak m) } :=
  if_neg fun hv => by
    obtain ⟨h1, h64⟩ := validLimit_iff.mp hv
    omega

variable (hl : (s.lane k).link = true)
include hl

/-- A HELLO received on a DOWN lane is handled at once (R119). -/
theorem hello_down {u : State} (hs : (s.lane k).state = .down) (hu : helloDown k m s = u) :
    ∃ t, exec (.hello k m) s = .next t ∧ t.still = u.still :=
  event_still (by simp [hl, State.live, hs, LaneState.live, hu])

/-- A HELLO received on a DISABLED lane is discarded (R118). -/
theorem hello_disabled (hs : (s.lane k).state = .disabled) : ∃ t, exec (.hello k m) s = .next t ∧ t.still = s.still :=
  event_still (by simp [hl, State.live, hs, LaneState.live])

end hello

/-- Settles O22: the two outcomes on a DOWN lane by the limit, and the discard on a DISABLED one (R119, R75, R59). -/
theorem helloOnALaneThatIsNotLive : Obligations.HelloOnALaneThatIsNotLive := by
  refine fun s k m hl => ⟨fun hs h1 h64 => ?_, fun hs hm => hello_down hl hs (helloDown_invalid hm), hello_disabled hl⟩
  obtain ⟨t, hnext, ht⟩ := hello_down hl hs (helloDown_valid h1 h64)
  exact ⟨t, strandedNaming k s, hnext, strandedNaming_ascending, strandedNaming_mem, ht⟩

end Sys2Proof.Machine

/-!
# The order and the depth of a queue

What R66, R67 and R68 say of one lane, and what a delivery procedure leaves of them.
-/

namespace Sys2Proof.Machine

-- One theorem is elaborated after the other: many at once need too many threads.
set_option Elab.async false

/-! ### The place of a new item -/

/-- R66: the items of a queue stand in priority order. -/
def Ordered (q : List Item) : Prop := q.Pairwise fun a b => b.priority ≤ a.priority

/-- In an ordered queue the items behind the first of a lower priority are of a lower priority too. -/
theorem dropWhile_lower {q : List Item} (h : Ordered q) (p : Priority) :
    ∀ x ∈ q.dropWhile (fun x => decide (p ≤ x.priority)), x.priority < p := by
  induction q with
  | nil => nofun
  | cons a rest ih =>
    obtain ⟨ha, hrest⟩ := List.pairwise_cons.mp h
    by_cases hp : p ≤ a.priority
    · rw [List.dropWhile_cons_of_pos (by simpa using hp)]
      exact ih hrest
    · rw [List.dropWhile_cons_of_neg (by simpa using hp)]
      have hlow := not_le.mp hp
      intro x hx
      rcases List.mem_cons.mp hx with rfl | hx
      · exact hlow
      · exact (ha x hx).trans_lt hlow

/-- Settles O9: the queue is cut before its first item of a lower priority (R66). -/
theorem itemTakesTheTailOfItsPriority : Obligations.ItemTakesTheTailOfItsPriority := fun item _ h =>
  ⟨_, _, List.takeWhile_append_dropWhile.symm, rfl, fun _ hx => by simpa using List.mem_takeWhile_imp hx,
    dropWhile_lower h item.priority⟩

theorem insertItem_length (item : Item) (q : List Item) : (insertItem item q).length = q.length + 1 := (insertItem_perm item q).length_eq

/-- A new item keeps the order of its queue (R66). -/
theorem Ordered.insertItem {q : List Item} (h : Ordered q) (item : Item) : Ordered (insertItem item q) := by
  obtain ⟨a, b, rfl, hi, ha, hb⟩ := itemTakesTheTailOfItsPriority item q h
  obtain ⟨h1, h2, h3⟩ := List.pairwise_append.mp h
  rw [hi]
  refine List.pairwise_append.mpr ⟨h1, List.pairwise_cons.mpr ⟨fun x hx => (hb x hx).le, h2⟩, fun x hx y hy => ?_⟩
  rcases List.mem_cons.mp hy with rfl | hy
  · exact ha x hx
  · exact h3 x hx y hy

/-! ### The laws of one lane's work -/

/-- R66, R67, R68 and R113 at one lane: its queue is ordered and holds at most 32 items, entries are held only while it holds 32, and a
lane that is not live has neither. -/
structure WorkFits (l : Lane) : Prop where
  ordered : Ordered l.queue
  depth : l.queue.length ≤ 32
  full : l.held ≠ [] → l.queue.length = 32
  live : l.queue ≠ [] ∨ l.held ≠ [] → l.state.live = true

/-- A live lane whose queue has lost an item and takes one more: what promotion starts from (R69). -/
structure HasRoom (l : Lane) : Prop where
  ordered : Ordered l.queue
  depth : l.queue.length < 32
  full : l.held ≠ [] → l.queue.length + 1 = 32
  live : l.state.live = true

theorem WorkFits.empty {l : Lane} (hq : l.queue = []) (hh : l.held = []) : WorkFits l where
  ordered := hq ▸ List.Pairwise.nil
  depth := by simp [hq]
  full := fun h => absurd hh h
  live := fun h => h.elim (absurd hq) (absurd hh)

/-- The law looks at the queue, the held list and the lane's being live alone. -/
theorem WorkFits.congr {l m : Lane} (h : WorkFits l) (hq : m.queue = l.queue) (hh : m.held = l.held)
    (hl : l.state.live = true → m.state.live = true) : WorkFits m where
  ordered := hq ▸ h.ordered
  depth := hq ▸ h.depth
  full := by rw [hq, hh]; exact h.full
  live := by rw [hq, hh]; exact fun hw => hl (h.live hw)

/-- While a queue holds fewer than 32 items nothing is held (R68). -/
theorem WorkFits.hasRoom {l : Lane} (h : WorkFits l) (hl : l.state.live = true) (hd : l.queue.length < 32) : HasRoom l where
  ordered := h.ordered
  depth := hd
  full := fun hh => absurd (h.full hh) hd.ne
  live := hl

/-- With nothing held, room may be left. -/
theorem HasRoom.workFits {l : Lane} (h : HasRoom l) (hh : l.held = []) : WorkFits l where
  ordered := h.ordered
  depth := h.depth.le
  full := fun hn => absurd hh hn
  live := fun _ => h.live

/-- An item leaves the queue of a lane (R69). -/
theorem WorkFits.itemLeaves {l m : Lane} (h : WorkFits l) (hq : m.queue.Sublist l.queue) (hn : m.queue.length + 1 = l.queue.length)
    (hh : m.held = l.held) (hl : m.state.live = l.state.live) : HasRoom m where
  ordered := h.ordered.sublist hq
  depth := by have := h.depth; omega
  full := by rw [hn, hh]; exact h.full
  live := by rw [hl]; exact h.live (.inl fun e => by rw [e] at hn; cases hn)

section procedures
variable {s : State} {k : LaneId} {i : EntryIdx}

/-- An enqueue fills the room of its lane (R66). -/
theorem HasRoom.enqueue (h : HasRoom (s.lane k)) : WorkFits ((enqueue k i s).lane k) := by
  have hl : ((Machine.enqueue k i s).lane k).state.live = true := ((Delivers.enqueue k i s).live k).trans h.live
  have hq := enqueue_queue s k i k
  rw [if_pos rfl] at hq
  exact {
    ordered := hq ▸ h.ordered.insertItem _
    depth := by rw [hq, insertItem_length]; exact h.depth
    full := by rw [hq, insertItem_length, enqueue_held]; exact h.full
    live := fun _ => hl }

/-- The work of a lane is that of before. -/
def SameWork (l m : Lane) : Prop := m.queue = l.queue ∧ m.held = l.held ∧ m.state.live = l.state.live

theorem SameWork.refl (l : Lane) : SameWork l l := ⟨rfl, rfl, rfl⟩

theorem SameWork.trans {l m n : Lane} (h : SameWork l m) (h' : SameWork m n) : SameWork l n :=
  ⟨h'.1.trans h.1, h'.2.1.trans h.2.1, h'.2.2.trans h.2.2⟩

theorem SameWork.fits {l m : Lane} (h : SameWork l m) (hw : WorkFits l) : WorkFits m := hw.congr h.1 h.2.1 fun e => h.2.2.trans e

theorem SameWork.room {l m : Lane} (h : SameWork l m) (hr : HasRoom l) : HasRoom m := by
  obtain ⟨hq, hh, hl⟩ := h
  exact ⟨hq ▸ hr.ordered, hq ▸ hr.depth, by rw [hq, hh]; exact hr.full, hl.trans hr.live⟩

theorem SameWork.raiseNotice (n : NoticeKind) (d : Nat) (s : State) (j : LaneId) : SameWork (s.lane j) ((raiseNotice n d s).lane j) :=
  ⟨raiseNotice_queue .., raiseNotice_held .., (Delivers.raiseNotice n d s).live j⟩

theorem SameWork.quarantineLoose (i : EntryIdx) (s : State) (j : LaneId) : SameWork (s.lane j) ((quarantineLoose i s).lane j) :=
  ⟨quarantineLoose_queue .., quarantineLoose_held .., (Delivers.quarantineLoose i s).live j⟩

theorem SameWork.enqueue {j : LaneId} (hj : j ≠ k) (i : EntryIdx) (s : State) : SameWork (s.lane j) ((enqueue k i s).lane j) :=
  ⟨by rw [enqueue_queue, if_neg hj], enqueue_held .., (Delivers.enqueue k i s).live j⟩

theorem SameWork.modLane {j : LaneId} (hj : j ≠ k) (f : Lane → Lane) (s : State) : SameWork (s.lane j) ((s.modLane k f).lane j) := by
  rw [lane_modLane_ne s hj]
  exact .refl _

/-- Promotion touches the work of its own lane alone (R69). -/
theorem SameWork.promoteFrom {j : LaneId} (hj : j ≠ k) (w : List EntryIdx) (s : State) :
    SameWork (s.lane j) ((promoteFrom k w s).lane j) := by
  induction w generalizing s with
  | nil => exact .modLane hj _ s
  | cons i rest ih =>
    have h := SameWork.modLane hj (fun l => { l with held := rest }) s
    unfold Machine.promoteFrom
    split
    · exact h.trans (.enqueue hj i _)
    · exact (h.trans (.quarantineLoose i _ j)).trans (ih _)

theorem SameWork.promote {j : LaneId} (hj : j ≠ k) (s : State) : SameWork (s.lane j) ((promote k s).lane j) := by
  unfold Machine.promote
  split
  · exact .promoteFrom hj _ s
  · exact .refl _

/-- Promotion ends with the queue filled or nothing held (R12, R68). -/
theorem HasRoom.promoteFrom {w : List EntryIdx} (h : HasRoom (s.lane k)) (hw : (s.lane k).held = w) :
    WorkFits ((promoteFrom k w s).lane k) := by
  induction w generalizing s with
  | nil =>
    rw [Machine.promoteFrom, lane_modLane_same]
    exact HasRoom.workFits ⟨h.ordered, h.depth, fun e => absurd rfl e, h.live⟩ rfl
  | cons i rest ih =>
    have hr : HasRoom ((s.modLane k fun l => { l with held := rest }).lane k) := by
      rw [lane_modLane_same]
      exact ⟨h.ordered, h.depth, fun _ => h.full (by rw [hw]; simp), h.live⟩
    unfold Machine.promoteFrom
    split
    · exact hr.enqueue
    · exact ih ((SameWork.quarantineLoose i _ k).room hr) (by rw [quarantineLoose_held, lane_modLane_same])

theorem HasRoom.promote (h : HasRoom (s.lane k)) : WorkFits ((promote k s).lane k) := by
  rw [promote_of_live h.live]
  exact h.promoteFrom rfl

/-- A placement keeps the laws of its lane (R57). -/
theorem WorkFits.place (hl : s.live k = true) {j : LaneId} (h : WorkFits (s.lane j)) : WorkFits ((place k i s).lane j) := by
  by_cases hj : j = k
  · subst hj
    by_cases hd : (s.lane j).queue.length < 32
    · rw [place_enqueues hd]
      exact (h.hasRoom hl hd).enqueue
    · rw [place_holds (Nat.not_lt.mp hd), setDelivery_lane, lane_modLane_same]
      exact ⟨h.ordered, h.depth, fun _ => le_antisymm h.depth (Nat.not_lt.mp hd), fun _ => hl⟩
  · unfold Machine.place
    split
    · exact (SameWork.enqueue hj i s).fits h
    · rw [setDelivery_lane]
      exact (SameWork.modLane hj _ s).fits h

/-- An offer keeps the laws of every lane (R11). -/
theorem WorkFits.offer {j : LaneId} (h : WorkFits (s.lane j)) : WorkFits ((offer i s).lane j) := by
  have ho := offer_outcome i s
  generalize Machine.offer i s = t at ho
  cases ho with
  | latches => exact h
  | quarantines => exact (SameWork.quarantineLoose i s j).fits h
  | strands => exact (SameWork.raiseNotice _ _ (setDelivery i .stranded s) j).fits h
  | places k hq hm hc hk => exact h.place (chooseLane_live s hk)

/-- The item of a queued entry taken out leaves room on its lane. -/
theorem WorkFits.takeOut_hasRoom (hp : PlacementSound s) (hs : (s.entry i).state = .queued k) (h : WorkFits (s.lane k)) :
    HasRoom ((takeOut i s).lane k) := by
  have hlane : (takeOut i s).lane k = { s.lane k with queue := (s.lane k).queue.filter (fun x => decide (x.entry ≠ i)) } := by
    simp only [takeOut, hs, setDelivery_lane, lane_modLane_same]
  have hlen : ((takeOut i s).lane k).queue.length + 1 = (s.lane k).queue.length := by
    have hmem : i ∈ (s.lane k).queue.map Item.entry := (hp.1 k i).mpr hs
    have herase : ((takeOut i s).lane k).queue.map Item.entry = ((s.lane k).queue.map Item.entry).erase i := by
      rw [takeOut_queue hp, (hp.2.2.1 k).erase_eq_filter]
      exact List.filter_congr fun j _ => by by_cases h : j = i <;> simp [h]
    have hlen := congrArg List.length herase
    rw [List.length_erase_of_mem hmem, List.length_map, List.length_map] at hlen
    have hpos := List.length_pos_of_mem hmem
    rw [List.length_map] at hpos
    omega
  refine h.itemLeaves ?_ hlen (by rw [hlane]) (by rw [hlane])
  rw [hlane]
  exact List.filter_sublist

/-- A withdrawal keeps the laws of every lane (R14, R69). -/
theorem WorkFits.withdraw (hp : PlacementSound s) (i : EntryIdx) {j : LaneId} (h : WorkFits (s.lane j)) :
    WorkFits ((withdraw i s).lane j) := by
  cases hs : (s.entry i).state with
  | queued k =>
    rw [withdraw_of_queued hs]
    by_cases hj : j = k
    · subst hj
      exact (h.takeOut_hasRoom hp hs).promote
    · refine (SameWork.promote hj _).fits ?_
      simp only [takeOut, hs, setDelivery_lane]
      exact (SameWork.modLane hj _ s).fits h
  | held k =>
    rw [withdraw_of_held hs]
    simp only [takeOut, hs, setDelivery_lane]
    by_cases hj : j = k
    · subst hj
      rw [lane_modLane_same]
      have hsub : ∀ l : List EntryIdx, l.filter (fun x => decide (x ≠ i)) ≠ [] → l ≠ [] := by rintro _ h rfl; exact h rfl
      exact ⟨h.ordered, h.depth, fun hh => h.full (hsub _ hh), fun hw => h.live (hw.imp_right (hsub _))⟩
    · exact (SameWork.modLane hj _ s).fits h
  | idle | latched | stranded | outstanding => rw [withdraw_of_not_placed (by rw [hs]; rfl)]; exact h

end procedures

end Sys2Proof.Machine

/-!
# Credit taken, ranks granted, the head item sent
-/

namespace Sys2Proof.Machine

-- One theorem is elaborated after the other: many at once need too many threads.
set_option Elab.async false

/-! ### CREDIT -/

section credit
variable {s : State} {k : LaneId} {c : Byte} {m : Nat}

/-- A CREDIT at a lane with a limit, by its count (R76, R77). -/
theorem takeCredit_eq (hm : (s.lane k).creditLimit = some m) :
    takeCredit k c s =
      if c = 0 then s
      else if (s.lane k).availableCredit + c.toNat ≤ m then
        s.modLane k fun l => { l with availableCredit := (s.lane k).availableCredit + c.toNat }
      else
        raiseNotice .creditOverrun k.val (countOverrun (s.modLane k fun l => { l with availableCredit := m }) k
          ((s.lane k).availableCredit + c.toNat - m)) := by
  simp only [takeCredit, hm, Option.getD_some]

theorem credit_next (hl : (s.lane k).link = true) (hlive : s.live k = true) (c : Byte) :
    exec (.credit k c) s = .next (settle (received k s) s (takeCredit k c (frameWakes k s))) := by
  change execCredit k c s = _
  rw [execCredit, event_next, hostFrame, hl, hlive, Bool.true_and, if_pos rfl]

end credit

/-- Two changes of a lane that agree on the lane as it is are one change. -/
theorem modLane_congr {s : State} {k : LaneId} {f g : Lane → Lane} (h : f (s.lane k) = g (s.lane k)) : s.modLane k f = s.modLane k g := by
  rw [State.modLane, State.modLane, h]

/-- Settles O27: the frame is heard first, and the credit then taken up to the limit (R76, R77). -/
theorem creditIsTakenUpToTheLimit : Obligations.CreditIsTakenUpToTheLimit := by
  intro s k c m hl hlive hm
  have hnext := credit_next hl hlive c
  have hears := frameWakes_lane k s k
  have hlimit : ((frameWakes k s).lane k).creditLimit = some m := by rw [hears]; exact hm
  have hcredit : ((frameWakes k s).lane k).availableCredit = (s.lane k).availableCredit := by rw [hears]
  rw [takeCredit_eq hlimit, hcredit] at hnext
  refine ⟨fun h0 => ⟨_, hnext, ?_⟩, fun h0 hle => ⟨_, hnext, ?_⟩, fun h0 hlt => ⟨_, hnext, ?_⟩⟩
  · rw [settle_still, if_pos h0]
  · rw [settle_still, if_neg h0, if_pos hle]
    exact congrArg State.still (modLane_congr (by rw [hcredit]))
  · rw [settle_still, if_neg h0, if_neg (Nat.not_le.mpr hlt), countOverrun, State.count, modLane_modLane]

/-! ### The ranks -/

section ranks
variable (s : State) (k : LaneId)

theorem sendable_helloReply : sendable s k .helloReply = true ↔ (s.lane k).helloReply ≠ none ∧ (s.lane k).state ≠ .disabled := by
  simp [sendable, Option.isSome_iff_ne_none]

theorem sendable_park : sendable s k .park = true ↔ (∃ d, (s.lane k).state = .parking d) ∧ (s.lane k).parkReplyTimer = none := by
  cases h : (s.lane k).state <;> simp [sendable, h]

theorem sendable_control : sendable s k .control = true ↔ (s.lane k).state = .active ∧ (s.lane k).control ≠ [] := by
  simp [sendable]

theorem mem_noticeKinds (kind : NoticeKind) : kind ∈ noticeKinds := by cases kind <;> decide

/-- A notice waits for the manager lane while some set kind is not sent (R127). -/
theorem noticeWaits_iff : s.noticeWaits k = true ↔ k = s.manager ∧ ∃ kind, (s.notice kind).isSet = true ∧ (s.notice kind).sent = false := by
  simp [State.noticeWaits, State.firstUnsent, NoticeRecord.unsent, mem_noticeKinds]

theorem sendable_notice : sendable s k .notice = true ↔
    (s.lane k).state = .active ∧ k = s.manager ∧ ∃ kind, (s.notice kind).isSet = true ∧ (s.notice kind).sent = false := by
  rw [← noticeWaits_iff]
  simp [sendable]

theorem sendable_event : sendable s k .event = true ↔
    (s.lane k).state = .active ∧ 1 ≤ (s.lane k).availableCredit ∧ (s.lane k).queue ≠ [] := by
  simp [sendable, and_assoc]

/-- A transmitter that is free grants the first rank with a sendable frame (R136). -/
theorem granted_of_free {s : State} {k : LaneId} (hl : (s.lane k).link = true) (hs : (s.lane k).sending = none) :
    granted s k = [Rank.helloReply, .park, .control, .notice, .event].find? (sendable s k) := by
  simp [granted, hl, hs]

theorem granted_of_not_free {s : State} {k : LaneId} (h : (s.lane k).link = false ∨ (s.lane k).sending ≠ none) : granted s k = none := by
  refine if_neg fun hg => ?_
  simp only [Bool.and_eq_true, Option.isNone_iff_eq_none] at hg
  obtain ⟨hl, hs⟩ := hg
  exact h.elim (by simp [hl]) (absurd hs)

end ranks

/-- Settles O33: the first of the five ranks that has a frame sendable in the lane state (R136). -/
theorem transmitterGrantsByRank : Obligations.TransmitterGrantsByRank := by
  intro s k l hello park control notice item
  refine ⟨granted_of_not_free, fun hl hs => ?_⟩
  rw [granted_of_free hl hs]
  have h1 : sendable s k .helloReply = true ↔ hello := sendable_helloReply s k
  have h2 : sendable s k .park = true ↔ park := sendable_park s k
  have h3 : sendable s k .control = true ↔ control := sendable_control s k
  have h4 : sendable s k .notice = true ↔ notice := sendable_notice s k
  have h5 : sendable s k .event = true ↔ item := sendable_event s k
  clear_value hello park control notice item
  simp only [List.find?_cons_eq_some, List.find?_nil, Bool.not_eq_true', ← Bool.not_eq_true, h1, h2, h3, h4, h5, reduceCtorEq,
    and_true, and_false, or_false, false_or]
  exact ⟨trivial, and_comm, ⟨fun ⟨a, b, c⟩ => ⟨c, a, b⟩, fun ⟨c, a, b⟩ => ⟨a, b, c⟩⟩,
    ⟨fun ⟨a, b, c, d⟩ => ⟨d, a, b, c⟩, fun ⟨d, a, b, c⟩ => ⟨a, b, c, d⟩⟩,
    ⟨fun ⟨a, b, c, d, e⟩ => ⟨e, a, b, c, d⟩, fun ⟨e, a, b, c, d⟩ => ⟨a, b, c, d, e⟩⟩⟩

/-! ### The send -/

theorem modEntry_modLane (s : State) (i : EntryIdx) (f : Entry → Entry) (k : LaneId) (g : Lane → Lane) :
    (s.modEntry i f).modLane k g = (s.modLane k g).modEntry i f := rfl

theorem send_next {s : State} {k : LaneId} {item : Item} {rest : List Item} (hg : granted s k = some .event)
    (hq : (s.lane k).queue = item :: rest) : exec (.send k) s = .next (settle none s (sendHead k item rest s)) := by
  change execSend k s = _
  rw [execSend, event_next, hg, hq]

/-- The head item taken, as one change of its lane and one of its entry (R72). -/
theorem sentItem_eq (k : LaneId) (item : Item) (rest : List Item) (s : State) :
    sentItem k item rest s =
      (s.modLane k fun l =>
        { l with
          availableCredit := l.availableCredit - 1, queue := rest
          counters := { l.counters with eventsSent := l.counters.eventsSent + 1 } }).modEntry item.entry fun e =>
        { e with pendingCount := 0, state := sentState k item e.workTrigger } := by
  rw [sentItem, setDelivery_setPending, countSent, State.count, modEntry_modLane, modLane_modLane]
  exact modEntry_congr rfl

/-- Settles O35: the head item taken, promotion, and the frame formed from the item and its entry as they were (R71, R72). -/
theorem sendDeliversTheHeadItem : Obligations.SendDeliversTheHeadItem := by
  intro s k item rest hg hq e
  refine ⟨_, send_next hg hq, ?_⟩
  rw [settle_still, sendHead_eq, sentItem_eq]
  rfl

end Sys2Proof.Machine

/-!
# What delivery keeps of every lane's work and of the bindings
-/

namespace Sys2Proof.Machine

-- One theorem is elaborated after the other: many at once need too many threads.
set_option Elab.async false

/-- Every lane that has the laws of its work keeps them, and no binding is made. -/
structure Handles (s t : State) : Prop where
  work : ∀ k, WorkFits (s.lane k) → WorkFits (t.lane k)
  bound : ∀ i k v, (t.entry i).state = .outstanding k v → (s.entry i).state = .outstanding k v

section handles
variable {s t u : State}

theorem Handles.refl (s : State) : Handles s s := ⟨fun _ => id, fun _ _ _ => id⟩

theorem Handles.trans (h : Handles s t) (h' : Handles t u) : Handles s u :=
  ⟨fun k hk => h'.work k (h.work k hk), fun i k v hi => h.bound i k v (h'.bound i k v hi)⟩

/-- A change of one entry that makes no binding. -/
theorem Handles.modEntry (s : State) (i : EntryIdx) (f : Entry → Entry)
    (h : ∀ k v, (f (s.entry i)).state = .outstanding k v → (s.entry i).state = .outstanding k v := by exact fun _ _ => id) :
    Handles s (s.modEntry i f) := by
  refine ⟨fun _ => id, fun j k v hj => ?_⟩
  rw [entry_modEntry] at hj
  split at hj
  · next e => rw [e]; exact h k v hj
  · exact hj

theorem Handles.setDelivery (i : EntryIdx) {d : DeliveryState} (hd : ∀ k v, d ≠ .outstanding k v) (s : State) :
    Handles s (setDelivery i d s) := .modEntry s i _ fun k v h => absurd h (hd k v)

theorem Handles.setPending (i : EntryIdx) (n : Nat) (s : State) : Handles s (setPending i n s) := .modEntry s i _

theorem Handles.setLine (i : EntryIdx) (b : Bool) (s : State) : Handles s (setLine i b s) := .modEntry s i _

theorem Handles.writeEntry (i : EntryIdx) (img : Image) (s : State) : Handles s (writeEntry i img s) := .modEntry s i _

theorem Handles.unbind (i : EntryIdx) (s : State) : Handles s (unbind i s) := .modEntry s i _ nofun

theorem Handles.raiseNotice (n : NoticeKind) (d : Nat) (s : State) : Handles s (raiseNotice n d s) :=
  ⟨fun k => (SameWork.raiseNotice n d s k).fits, fun i k v h => by rwa [raiseNotice_entry] at h⟩

/-- An entry that waits is not bound. -/
theorem not_outstanding_of_waits {d : DeliveryState} (h : d.waits = true) (k : LaneId) (v : Byte) : d ≠ .outstanding k v := by
  rintro rfl
  cases h

theorem EntryOffered.not_outstanding {i : EntryIdx} {e f : Entry} (h : EntryOffered s i e f) (k : LaneId) (v : Byte) :
    f.state ≠ .outstanding k v := not_outstanding_of_waits h.waits k v

/-- A released entry is not bound (R89). -/
theorem EntryReleased.not_outstanding {i : EntryIdx} {e f : Entry} (h : EntryReleased s i e f) (k : LaneId) (v : Byte) :
    f.state ≠ .outstanding k v := by
  cases hl : e.line with
  | false => rw [h.1 hl]; nofun
  | true => exact (h.2 hl).not_outstanding k v

/-- A promotion makes no binding (R12). -/
theorem EntryPromotes.bound {i : EntryIdx} {e f : Entry} (h : EntryPromotes i e f) {k : LaneId} {v : Byte}
    (hf : f.state = .outstanding k v) : e.state = .outstanding k v := by
  rcases h with rfl | ⟨j, -, ⟨-, rfl⟩ | ⟨-, rfl⟩⟩
  · exact hf
  · cases hf
  · cases hf

theorem Handles.offer (i : EntryIdx) (s : State) : Handles s (offer i s) := by
  refine ⟨fun _ => WorkFits.offer, fun j k v hj => ?_⟩
  by_cases e : j = i
  · subst e
    obtain ⟨d, q, hd, ho, -⟩ := offer_entry s j
    rw [ho] at hj
    exact absurd hj (not_outstanding_of_waits hd.waits k v)
  · rwa [offer_entry_ne s e] at hj

theorem Handles.withdraw (hp : PlacementSound s) (i : EntryIdx) : Handles s (withdraw i s) := by
  refine ⟨fun _ => WorkFits.withdraw hp i, fun j k v hj => ?_⟩
  by_cases e : j = i
  · subst e
    rw [withdraw_entry_same hp] at hj
    split at hj
    · cases hj
    · exact hj
  · exact (withdraw_entry_ne hp e).bound hj

/-- A fold of procedures that each keep the laws. -/
theorem Handles.foldl {f : EntryIdx → State → State} (hf : ∀ i s, Handles s (f i s)) (is : List EntryIdx) (s : State) :
    Handles s (is.foldl (fun t i => f i t) s) := by
  induction is generalizing s with
  | nil => exact .refl s
  | cons i rest ih => exact (hf i s).trans (ih _)

theorem Handles.settleRelease (i : EntryIdx) (s : State) : Handles s (settleRelease i s) := by
  unfold Machine.settleRelease
  split
  · exact (Handles.setPending i 1 s).trans (.offer i _)
  · exact (Handles.setPending i 0 s).trans (.setDelivery i (d := .idle) nofun _)

theorem Handles.releaseAll (is : List EntryIdx) (s : State) : Handles s (releaseAll is s) :=
  (Handles.foldl Handles.unbind is s).trans (.foldl Handles.settleRelease is _)

/-! ### The line effects -/

theorem Handles.coalesce (i : EntryIdx) (n : Nat) (s : State) : Handles s (coalesce i n s) := by
  rw [coalesce_eq]
  split
  · exact (Handles.setPending i _ s).trans (.raiseNotice _ _ _)
  · exact .setPending i _ s

theorem Handles.edgeRaise (i : EntryIdx) (n : Nat) (s : State) : Handles s (edgeRaise i n s) := by
  have h := Handles.setLine i true s
  rcases (s.entry i).state.idle_or_waits_or_outstanding with hs | hs | ⟨k, v, hs⟩
  · rw [edgeRaise_idle hs]
    exact (h.trans (.setPending i n _)).trans (.offer i _)
  · rw [edgeRaise_waits hs]
    exact h.trans (.coalesce i n _)
  · rw [edgeRaise_outstanding hs]
    exact h

theorem Handles.levelAssert (i : EntryIdx) (s : State) : Handles s (levelAssert i s) := by
  have h := Handles.setLine i true s
  cases hl : (s.entry i).line with
  | true => rw [levelAssert_asserted hl]; exact .refl s
  | false =>
    by_cases hs : (s.entry i).state = .idle
    · rw [levelAssert_idle hl hs]
      exact (h.trans (.setPending i 1 _)).trans (.offer i _)
    · rw [levelAssert_not_idle hl hs]
      exact h

/-- A change of an entry that keeps its delivery state keeps the placement law. -/
theorem PlacementSound.modEntry (h : PlacementSound s) (i : EntryIdx) (f : Entry → Entry)
    (hf : (f (s.entry i)).state = (s.entry i).state := by exact rfl) : PlacementSound (s.modEntry i f) := by
  refine h.congr (fun j => ?_) (fun _ => rfl) fun _ => rfl
  rw [entry_modEntry]
  split
  · next e => rw [e, hf]
  · rfl

theorem Handles.deassert (hp : PlacementSound s) (i : EntryIdx) : Handles s (deassert i s) := by
  have h := Handles.modEntry s i fun e => { e with line := false }
  rw [deassert_eq]
  split
  · exact .refl s
  · split
    · exact (h.trans (.withdraw (hp.modEntry i _) i)).trans (.modEntry _ i _ nofun)
    · exact h

/-! ### Written, quarantined and moved entries -/

theorem Handles.settlePending (i : EntryIdx) (n : Nat) (s : State) : Handles s (settlePending i n s) := by
  rw [settlePending_eq]
  split
  · exact .modEntry s i _ nofun
  · exact (Handles.modEntry s i _).trans (.offer i _)

theorem Handles.applyEntry (hp : PlacementSound s) (i : EntryIdx) (img : Image) : Handles s (applyEntry i img s) := by
  have hw := Handles.writeEntry i img s
  rcases (s.entry i).state.idle_or_waits_or_outstanding with hs | hs | ⟨k, v, hs⟩
  · rw [applyEntry_idle img hs]
    split
    · exact (hw.trans (.setPending i 1 _)).trans (.offer i _)
    · exact hw
  · rw [applyEntry_waits img hs]
    exact (hw.trans (.withdraw (hp.writeEntry i img) i)).trans (.settlePending i _ _)
  · cases ht : img.trigger with
    | level => rw [applyEntry_bound_level img hs ht]; exact hw
    | edge =>
      rw [applyEntry_bound_edge img hs ht]
      exact (hw.trans (.unbind i _)).trans (.settleRelease i _)

theorem Handles.quarantineFound (hp : PlacementSound s) (i : EntryIdx) : Handles s (quarantineFound i s) := by
  have hf : Handles s (s.modEntry i fun e => { e with quarantined := true }) := .modEntry s i _
  have hw := (hf.trans (.withdraw (hp.modEntry i _) i)).trans (.setDelivery i (d := .latched) nofun _)
  refine Handles.trans (t := settleFound i s) ?_ (.raiseNotice _ _ _)
  unfold settleFound
  dsimp only
  split
  · exact hw
  · exact hw
  · exact hf.trans (.setDelivery i (d := .latched) nofun _)
  all_goals exact hf

/-- Entries withdrawn and offered one after the other (R124). -/
theorem Handles.moveAll (hp : PlacementSound s) (is : List EntryIdx) :
    Handles s (is.foldl (fun t i => Machine.offer i (Machine.withdraw i t)) s) := by
  induction is generalizing s with
  | nil => exact .refl s
  | cons i rest ih =>
    exact ((Handles.withdraw hp i).trans (.offer i _)).trans (ih ((hp.withdraw i).offer (withdraw_not_placed hp i)))

theorem Handles.lossOfWork (hp : PlacementSound s) (k : LaneId) : Handles s (lossOfWork k s) := .moveAll hp _

end handles

end Sys2Proof.Machine

/-!
# Queues, credit and places, kept by the changes that events are made of

The laws R64, R66 to R68, R78, R86, R113 and R145 lane by lane, and what of them each of the bridge's procedures keeps.
-/

namespace Sys2Proof.Machine

-- One theorem is elaborated after the other: many at once need too many threads.
set_option Elab.async false

/-! ### The laws -/

/-- R64 and R78 at one lane. -/
def CreditFits (l : Lane) : Prop :=
  match l.creditLimit with
  | some m => l.state.live = true ∧ 1 ≤ m ∧ m ≤ Config.maxCreditLimit ∧ l.availableCredit ≤ m
  | none => l.state.live = false ∧ l.availableCredit = 0

theorem creditSound_iff (s : State) : CreditSound s ↔ ∀ k, CreditFits (s.lane k) := Iff.rfl

/-- The law looks at the limit, the available credit and the lane's being live alone. -/
theorem CreditFits.congr {l m : Lane} (h : CreditFits l) (hm : m.creditLimit = l.creditLimit) (ha : m.availableCredit = l.availableCredit)
    (hl : m.state.live = l.state.live) : CreditFits m := by
  unfold CreditFits
  rw [hm, ha, hl]
  exact h

/-- Credit may be spent (R78). -/
theorem CreditFits.le {l m : Lane} (h : CreditFits l) (hm : m.creditLimit = l.creditLimit) (ha : m.availableCredit ≤ l.availableCredit)
    (hl : m.state.live = l.state.live) : CreditFits m := by
  unfold CreditFits at h ⊢
  rw [hm, hl]
  split at h
  · obtain ⟨h1, h2, h3, h4⟩ := h
    exact ⟨h1, h2, h3, ha.trans h4⟩
  · obtain ⟨h1, h2⟩ := h
    exact ⟨h1, by omega⟩

/-- A lane that is not live has no limit and no credit (R64). -/
theorem CreditFits.down {l : Lane} (hm : l.creditLimit = none) (ha : l.availableCredit = 0) (hl : l.state.live = false) : CreditFits l := by
  unfold CreditFits
  rw [hm]
  exact ⟨hl, ha⟩

/-- The laws of the queues in the shape in which events keep them: a lane with work, and a lane that is bound to, is live. -/
structure QueueLaws (s : State) : Prop where
  placement : PlacementSound s
  work : ∀ k, WorkFits (s.lane k)
  bound : ∀ i k v, (s.entry i).state = .outstanding k v → s.live k = true

theorem queueLaws_iff (s : State) : QueueLaws s ↔ PlacementSound s ∧ DepthSound s ∧ DownEmpty s ∧ OrderSound s := by
  constructor
  · intro h
    refine ⟨h.placement, fun k => ⟨(h.work k).depth, (h.work k).full⟩, fun k hk => ?_, fun k => (h.work k).ordered⟩
    have hw : ¬ ((s.lane k).queue ≠ [] ∨ (s.lane k).held ≠ []) := fun hw => by
      have := (h.work k).live hw
      rw [State.live] at hk
      rw [hk] at this
      cases this
    rw [not_or, not_not, not_not] at hw
    refine ⟨hw.1, hw.2, fun i v hi => ?_⟩
    have := h.bound i k v hi
    rw [hk] at this
    cases this
  · rintro ⟨hp, hd, he, ho⟩
    refine ⟨hp, fun k => ⟨ho k, (hd k).1, (hd k).2, fun hw => ?_⟩, fun i k v hi => ?_⟩
    · by_contra hl
      obtain ⟨hq, hh, -⟩ := he k (Bool.not_eq_true _ ▸ hl)
      exact hw.elim (absurd hq) (absurd hh)
    · by_contra hl
      obtain ⟨-, -, hb⟩ := he k (Bool.not_eq_true _ ▸ hl)
      exact hb i v hi

/-! ### What an event does to one lane's accounts -/

/-- The credit stays in its bounds, and no place of the control queue is taken (R78, R145). -/
structure LaneAccounts (l m : Lane) : Prop where
  credit : CreditFits l → CreditFits m
  control : m.control.length ≤ l.control.length
  slot : m.slot.isSome = true → l.slot.isSome = true

theorem LaneAccounts.refl (l : Lane) : LaneAccounts l l := ⟨id, le_rfl, id⟩

theorem LaneAccounts.trans {l m n : Lane} (h : LaneAccounts l m) (h' : LaneAccounts m n) : LaneAccounts l n :=
  ⟨fun hc => h'.credit (h.credit hc), h'.control.trans h.control, fun hs => h.slot (h'.slot hs)⟩

/-- No more places are taken than before. -/
theorem LaneAccounts.places {l m : Lane} (h : LaneAccounts l m) : placesTaken m ≤ placesTaken l := by
  have hc := h.control
  unfold placesTaken
  cases hm : m.slot.isSome with
  | false => rw [if_neg Bool.false_ne_true]; omega
  | true => rw [h.slot hm]; omega

theorem LaneDelivers.accounts {l m : Lane} (h : LaneDelivers l m) : LaneAccounts l m := by
  have hl := h.live
  obtain ⟨he, -⟩ := h
  exact ⟨fun hc => hc.congr (by rw [he]) (by rw [he]) hl, by rw [he], by rw [he]; exact id⟩

/-- A change that is neither to a lane's work nor to its accounts. -/
structure LaneSteady (l m : Lane) : Prop where
  queue : m.queue = l.queue := by rfl
  held : m.held = l.held := by rfl
  live : m.state.live = l.state.live := by rfl
  creditLimit : m.creditLimit = l.creditLimit := by rfl
  availableCredit : m.availableCredit = l.availableCredit := by rfl
  control : m.control = l.control := by rfl
  slot : m.slot = l.slot := by rfl

theorem LaneSteady.trans {l m n : Lane} (h : LaneSteady l m) (h' : LaneSteady m n) : LaneSteady l n :=
  ⟨h'.queue.trans h.queue, h'.held.trans h.held, h'.live.trans h.live, h'.creditLimit.trans h.creditLimit,
    h'.availableCredit.trans h.availableCredit, h'.control.trans h.control, h'.slot.trans h.slot⟩

theorem LaneSteady.accounts {l m : Lane} (h : LaneSteady l m) : LaneAccounts l m :=
  ⟨fun hc => hc.congr h.creditLimit h.availableCredit h.live, h.control ▸ le_rfl, h.slot ▸ id⟩

theorem LaneSteady.wake (b : Bool) (l : Lane) : LaneSteady l (l.wake b) := by
  unfold Lane.wake
  split
  · next h => exact { live := by rw [h]; rfl }
  · next h => exact { live := by rw [h]; rfl }
  · exact {}

theorem LaneSteady.workToSend (l : Lane) : LaneSteady l l.workToSend := by
  unfold Lane.workToSend
  split
  · exact {}
  · exact .wake true l
  · exact .wake true l
  all_goals exact {}

/-! ### What an event keeps -/

/-- The laws of the queues are kept, and every lane's accounts. -/
structure Upholds (s t : State) : Prop where
  laws : QueueLaws s → QueueLaws t
  accounts : ∀ k, LaneAccounts (s.lane k) (t.lane k)

section upholds
variable {s t u : State}

theorem Upholds.refl (s : State) : Upholds s s := ⟨id, fun _ => .refl _⟩

theorem Upholds.trans (h : Upholds s t) (h' : Upholds t u) : Upholds s u :=
  ⟨fun hs => h'.laws (h.laws hs), fun k => (h.accounts k).trans (h'.accounts k)⟩

/-- The laws where the entries, the queues and the held lists stand and no lane ceases to be live. -/
theorem QueueLaws.quiet (h : QueueLaws s) (hq : Quiet s t) (hl : ∀ k, s.live k = true → t.live k = true) : QueueLaws t where
  placement := ((Deed.quiet hq).sound h.placement).1
  work k := (h.work k).congr (hq.2 k).1 (hq.2 k).2 (hl k)
  bound i k v hi := hl k (h.bound i k v (by rwa [hq.entry] at hi))

/-- A change of one lane that keeps its work and leaves it live. -/
theorem Upholds.ofLane (s : State) (k : LaneId) (f : Lane → Lane) (hq : (f (s.lane k)).queue = (s.lane k).queue)
    (hh : (f (s.lane k)).held = (s.lane k).held) (hl : s.live k = true → (f (s.lane k)).state.live = true)
    (ha : LaneAccounts (s.lane k) (f (s.lane k))) : Upholds s (s.modLane k f) := by
  refine ⟨fun h => h.quiet ⟨rfl, fun j => ?_⟩ fun j hj => ?_, fun j => ?_⟩
  · rw [lane_modLane]
    split
    · next e => rw [e]; exact ⟨hq, hh⟩
    · exact ⟨rfl, rfl⟩
  · rw [State.live, lane_modLane]
    split
    · next e => rw [e] at hj; exact hl hj
    · exact hj
  · rw [lane_modLane]
    split
    · next e => rw [e]; exact ha
    · exact .refl _

theorem Upholds.steady (s : State) (k : LaneId) (f : Lane → Lane) (h : LaneSteady (s.lane k) (f (s.lane k))) : Upholds s (s.modLane k f) :=
  .ofLane s k f h.queue h.held h.live.trans h.accounts

/-- A change of a lane that is steady whatever the lane. -/
theorem Upholds.modLane (s : State) (k : LaneId) (f : Lane → Lane) (h : ∀ l, LaneSteady l (f l) := by exact fun _ => {}) :
    Upholds s (s.modLane k f) := .steady s k f (h _)

theorem Upholds.mapLanes (s : State) (f : LaneId → Lane → Lane) (h : ∀ k l, LaneSteady l (f k l) := by exact fun _ _ => {}) :
    Upholds s (s.mapLanes f) where
  laws hs := hs.quiet (.mapLanes s f fun k l => ⟨(h k l).queue, (h k l).held⟩) fun k hk => by
    rw [State.live, lane_mapLanes, (h k _).live]
    exact hk
  accounts k := by rw [lane_mapLanes]; exact (h k _).accounts

/-- A state with the entries and the lanes of another. -/
theorem Upholds.of (he : t.entries = s.entries := by exact rfl) (hl : t.lanes = s.lanes := by exact rfl) : Upholds s t := by
  have hk : ∀ k, t.lane k = s.lane k := fun k => by simp only [State.lane, hl]
  exact ⟨fun h => h.quiet (.of he hl) fun k hl => by rw [State.live, hk]; exact hl, fun k => by rw [hk]; exact .refl _⟩

theorem Upholds.modPort (s : State) (p : Port) (f : PortRecord → PortRecord) : Upholds s (s.modPort p f) := .of
theorem Upholds.modNode (s : State) (p : Port) (n : Node) (f : NodeRecord → NodeRecord) : Upholds s (s.modNode p n f) := .of
theorem Upholds.setNotice (s : State) (n : NoticeKind) (r : NoticeRecord) : Upholds s (s.setNotice n r) := .of

theorem Upholds.count (s : State) (k : LaneId) (f : LaneCounters → LaneCounters) : Upholds s (s.count k f) := .modLane s k _

theorem Upholds.workToSend (s : State) (k : LaneId) : Upholds s (s.workToSend k) := .modLane s k _ .workToSend

/-- The end of an event (R127). -/
theorem Upholds.settle (c : Option LaneId) (s u : State) : Upholds u (settle c s u) :=
  .mapLanes u _ fun _ l => ⟨settleIdle_queue .., settleIdle_held .., by rw [settleIdle_state], settleIdle_creditLimit ..,
    settleIdle_availableCredit .., settleIdle_control .., settleIdle_slot ..⟩

/-- Everything the release of several bindings can do to the lanes. -/
theorem Releases.lanes {is : List EntryIdx} (h : Releases is s t) : LanesDeliver s t := by
  obtain ⟨hf, -, -, hl, -⟩ := h
  exact ⟨hf, hl⟩

/-- What delivery does, where it keeps the placement law and the laws of the lanes' work. -/
theorem Upholds.ofDelivery (hl : LanesDeliver s t) (hp : PlacementSound s → PlacementSound t) (hh : PlacementSound s → Handles s t) :
    Upholds s t where
  laws h := {
    placement := hp h.placement
    work := fun k => (hh h.placement).work k (h.work k)
    bound := fun i k v hi => ((hl.2 k).live).trans (h.bound i k v ((hh h.placement).bound i k v hi)) }
  accounts k := (hl.2 k).accounts

/-! ### The procedures of delivery -/

theorem Upholds.raiseNotice (n : NoticeKind) (d : Nat) (s : State) : Upholds s (raiseNotice n d s) :=
  .ofDelivery (Delivers.raiseNotice n d s).lanes (fun h => h.raiseNotice n d) fun _ => .raiseNotice n d s

/-- A change of an entry that keeps its delivery state. -/
theorem Upholds.modEntry (s : State) (i : EntryIdx) (f : Entry → Entry) (hf : (f (s.entry i)).state = (s.entry i).state := by exact rfl) :
    Upholds s (s.modEntry i f) :=
  .ofDelivery (.modEntry s i f) (fun h => h.modEntry i f hf) fun _ => .modEntry s i f fun _ _ h => hf ▸ h

theorem Upholds.edgeRaise (i : EntryIdx) {n : Nat} (ht : (s.entry i).workTrigger = .edge) (h1 : 1 ≤ n) (h2 : n ≤ 255) :
    Upholds s (edgeRaise i n s) :=
  .ofDelivery (Takes.edgeRaise i n s).lanes (fun h => (edgeRaise_sound h ht h1 h2).1) fun _ => .edgeRaise i n s

theorem Upholds.levelAssert (i : EntryIdx) (s : State) : Upholds s (levelAssert i s) :=
  .ofDelivery (Takes.levelAssert i s).lanes (fun h => (levelAssert_sound h i).1) fun _ => .levelAssert i s

theorem Upholds.deassert (i : EntryIdx) (s : State) : Upholds s (deassert i s) :=
  .ofDelivery (Takes.deassert i s).lanes (fun h => (deassert_sound h i).1) fun h => .deassert h i

/-- Bound entries released (R90, R125). -/
theorem Upholds.releaseAll {is : List EntryIdx} (hn : is.Nodup) (hs : ∀ i ∈ is, ∃ k v, (s.entry i).state = .outstanding k v) :
    Upholds s (releaseAll is s) :=
  .ofDelivery (Releases.releaseAll is s).lanes (Deed.releases s is hn hs).deeds.placement
    fun _ => .releaseAll is s

/-- STRANDED entries offered again (R59, R60). -/
theorem Upholds.offerAll {is : List EntryIdx} (hn : is.Nodup) (hs : ∀ i ∈ is, (s.entry i).state = .stranded) : Upholds s (offerAll is s) :=
  .ofDelivery (Delivers.offerAll is s).lanes (Deed.offers s is hn hs).deeds.placement fun _ => .foldl Handles.offer is s

theorem Upholds.applyEntry (i : EntryIdx) (img : Image) (s : State) : Upholds s (applyEntry i img s) :=
  .ofDelivery (.applyEntry i img s) (Deed.writes s i img).deeds.placement fun h => .applyEntry h i img

theorem Upholds.quarantineFound (i : EntryIdx) (s : State) : Upholds s (quarantineFound i s) :=
  .ofDelivery (Delivers.quarantineFound i s).lanes (Deed.quarantines s i).deeds.placement fun h => .quarantineFound h i

/-! ### The send -/

theorem sentItem_lane (k : LaneId) (item : Item) (rest : List Item) (s : State) (j : LaneId) :
    (sentItem k item rest s).lane j = if j = k then
        { s.lane k with
          availableCredit := (s.lane k).availableCredit - 1, queue := rest
          counters := { (s.lane k).counters with eventsSent := (s.lane k).counters.eventsSent + 1 } }
      else s.lane j := by rw [sentItem_eq, modEntry_lane, lane_modLane]

theorem sentItem_accounts (k : LaneId) (item : Item) (rest : List Item) (s : State) (j : LaneId) :
    LaneAccounts (s.lane j) ((sentItem k item rest s).lane j) := by
  rw [sentItem_lane]
  split
  · next e => rw [e]; exact ⟨fun h => h.le rfl (Nat.sub_le ..) rfl, le_rfl, id⟩
  · exact .refl _

/-- The send of the head item: promotion fills the room it leaves, and its lane, which is live, is the one bound to (R69, R72). -/
theorem Upholds.sendHead {k : LaneId} {item : Item} {rest : List Item} (hq : (s.lane k).queue = item :: rest) :
    Upholds s (sendHead k item rest s) := by
  have hd := Delivers.promote k (sentItem k item rest s)
  rw [sendHead_eq]
  refine Upholds.trans (t := promote k (sentItem k item rest s)) ⟨fun h => ?_, fun j => ?_⟩ (.modLane _ k _)
  · have hp := h.placement.sentItem hq
    have hlive : ∀ j, (promote k (sentItem k item rest s)).live j = s.live j := fun j => by
      rw [hd.live, State.live, sentItem_lane]
      split
      · next e => rw [e]; rfl
      · rfl
    refine ⟨hp.promote k, fun j => ?_, fun i j v hi => ?_⟩
    · by_cases hj : j = k
      · subst hj
        refine HasRoom.promote ((h.work j).itemLeaves ?_ ?_ ?_ ?_) <;> rw [sentItem_lane, if_pos rfl]
        · rw [hq]; exact List.sublist_cons_self ..
        · rw [hq]; rfl
      · refine (SameWork.promote hj _).fits ?_
        rw [sentItem_lane, if_neg hj]
        exact h.work j
    · have hb := (promote_entry hp k i).bound hi
      rw [hlive]
      rw [sentItem_entry] at hb
      split at hb
      · cases ht : (s.entry i).workTrigger with
        | edge => rw [ht] at hb; cases hb
        | level =>
          rw [ht] at hb
          cases hb
          exact (h.work k).live (.inl (by rw [hq]; nofun))
      · exact h.bound i j v hb
  · exact (sentItem_accounts k item rest s j).trans (hd.lanes.2 j).accounts

/-! ### Lane loss and bring-up -/

theorem Upholds.clearStaging (s : State) : Upholds s (clearStaging s) := (Upholds.mapLanes s fun _ l => { l with readPos := 0 }).trans .of

theorem Upholds.lossOfManagement (k : LaneId) (s : State) : Upholds s (lossOfManagement k s) := by
  have h : Upholds s (s.modLane k fun l => { l with control := [], slot := none, readPos := 0 }) :=
    .ofLane s k _ rfl rfl id ⟨fun h => h.congr rfl rfl rfl, Nat.zero_le _, nofun⟩
  rw [lossOfManagement_eq]
  split
  · exact (h.trans .of).trans (.clearStaging _)
  · exact h.trans .of

theorem lossOfLane_accounts (k : LaneId) (cause : LossCause) (s : State) (j : LaneId) :
    LaneAccounts (s.lane j) ((lossOfLane k cause s).lane j) := by
  by_cases hj : j = k
  · subst hj
    have hl := lossOfLane_not_live j cause s
    refine ⟨fun _ => .down ?_ ?_ hl, ?_, ?_⟩ <;> rw [lossOfLane, lane_modLane_same]
    exact id
  · rw [lossOfLane, lane_modLane_ne s hj]
    exact .refl _

/-- A lost lane keeps no work: all of it has been offered, and no offer chooses a lane that is not live (R124). -/
theorem workMoved_empty (h : PlacementSound s) (k : LaneId) (cause : LossCause) :
    ((workMoved k cause s).lane k).queue = [] ∧ ((workMoved k cause s).lane k).held = [] := by
  obtain ⟨⟨hp, -⟩, he⟩ := workMoved_entries k cause h
  have hout : ∀ i, ((workMoved k cause s).entry i).state ≠ .queued k ∧ ((workMoved k cause s).entry i).state ≠ .held k := fun i => by
    by_cases hw : (s.entry i).state = .queued k ∨ (s.entry i).state = .held k
    · obtain ⟨d, q, hd, hf, -⟩ := (he i).1 hw
      rw [hf]
      rcases hd.leaves with rfl | rfl | ⟨j, hj, -, rfl | rfl⟩
      · exact ⟨nofun, nofun⟩
      · exact ⟨nofun, nofun⟩
      · exact ⟨by simpa using hj, nofun⟩
      · exact ⟨nofun, by simpa using hj⟩
    · rw [not_or] at hw
      rw [(he i).2 hw.1 hw.2]
      exact hw
  exact ⟨List.map_eq_nil_iff.mp (List.eq_nil_iff_forall_not_mem.mpr fun i hi => (hout i).1 ((hp.1 k i).mp hi)),
    List.eq_nil_iff_forall_not_mem.mpr fun i hi => (hout i).2 ((hp.2.1 k i).mp hi)⟩

/-- The laws once the work and the bindings of a lost lane have moved (R124, R125). -/
theorem lossOfBindings_laws (h : QueueLaws s) (k : LaneId) (cause : LossCause) : QueueLaws (lossOfBindings k (workMoved k cause s)) := by
  obtain ⟨⟨hp, hlive⟩, -⟩ := workMoved_entries k cause h.placement
  have hlost : PlacementSound (lossOfLane k cause s) := ((Deed.quiet (.lossOfLane k cause s)).sound h.placement).1
  have hmoved : Handles (lossOfLane k cause s) (workMoved k cause s) := .lossOfWork hlost k
  have hfreed : Handles (workMoved k cause s) (lossOfBindings k (workMoved k cause s)) := .releaseAll _ _
  obtain ⟨hrp, -, hreleased⟩ := releaseAll_entries hp (boundSet_nodup k (workMoved k cause s)) fun i hi => by
    obtain ⟨v, hv⟩ := (boundSet_mem k _ i).mp hi
    rw [hv]
    rfl
  have hother : ∀ {j}, j ≠ k → (lossOfLane k cause s).lane j = s.lane j := fun hj => by rw [lossOfLane, lane_modLane_ne s hj]
  refine ⟨hrp, fun j => hfreed.work j ?_, fun i j v hi => ?_⟩
  · by_cases hj : j = k
    · rw [hj]
      obtain ⟨hq, hh⟩ := workMoved_empty h.placement k cause
      exact .empty hq hh
    · exact hmoved.work j (by rw [hother hj]; exact h.work j)
  · have hbound := hfreed.bound i j v hi
    have hj : j ≠ k := by
      rintro rfl
      exact (hreleased i ((boundSet_mem j _ i).mpr ⟨v, hbound⟩)).not_outstanding j v hi
    have hs : s.live j = true := h.bound i j v (hmoved.bound i j v hbound)
    have hsame : (lossOfBindings k (workMoved k cause s)).live j = (workMoved k cause s).live j :=
      ((Releases.releaseAll _ _).lanes.2 j).live
    rw [hsame, hlive, State.live, hother hj]
    exact hs

/-- A lane loss keeps the laws that its first part alone would break (R122 to R126). -/
theorem Upholds.laneLoss (k : LaneId) (cause : LossCause) (s : State) : Upholds s (laneLoss k cause s) := by
  have h : ∀ c, Upholds s (laneLost k c s) := fun c => Upholds.trans
    ⟨fun h => lossOfBindings_laws h k c, fun j => ((lossOfLane_accounts k c s j).trans ((Delivers.lossOfWork k _).lanes.2 j).accounts).trans
      ((Releases.releaseAll _ (workMoved k c s)).lanes.2 j).accounts⟩ (.lossOfManagement k _)
  rw [laneLoss_cases]
  cases cause with
  | linkLost | wakeTimeout | restarted => exact (h _).trans (.raiseNotice _ _ _)
  | closed | disabled => exact h _

/-- Bring-up gives the lane a limit and as much credit (R119, R75). -/
theorem Upholds.helloDown (k : LaneId) (limit : Byte) (s : State) : Upholds s (helloDown k limit s) := by
  unfold Machine.helloDown
  split
  · next hv =>
    obtain ⟨h1, h64⟩ := validLimit_iff.mp hv
    have hup : Upholds s (s.modLane k fun l =>
        { l with state := .active, helloReply := some .ack, creditLimit := some limit.toNat, availableCredit := limit.toNat }) :=
      .ofLane s k _ rfl rfl (fun _ => rfl) ⟨fun _ => ⟨rfl, h1, h64, le_rfl⟩, le_rfl, id⟩
    exact hup.trans (.offerAll (rowsWhere_nodup _ _) fun i hi => ((strandedWhere_mem _ _ i).mp hi).1)
  · exact .modLane s k _

/-! ### The resets -/

/-- A lane without work, credit and taken places. -/
structure Cleared (l : Lane) : Prop where
  queue : l.queue = []
  held : l.held = []
  live : l.state.live = false
  creditLimit : l.creditLimit = none
  availableCredit : l.availableCredit = 0
  control : l.control = []
  slot : l.slot = none

/-- A reset (R7, R201). -/
theorem Upholds.clears (he : ∀ i, (t.entry i).state = .idle ∧ (t.entry i).pendingCount = 0 ∧ (t.entry i).line = false)
    (hl : ∀ k, Cleared (t.lane k)) : Upholds s t where
  laws h := {
    placement := (Deed.clears (s := s) he fun k => ⟨(hl k).queue, (hl k).held⟩).deeds.placement h.placement
    work := fun k => .empty (hl k).queue (hl k).held
    bound := fun i k v hi => by rw [(he i).1] at hi; cases hi }
  accounts k := ⟨fun _ => .down (hl k).creditLimit (hl k).availableCredit (hl k).live, by rw [(hl k).control]; exact Nat.zero_le _,
    by rw [(hl k).slot]; nofun⟩

end upholds

end Sys2Proof.Machine

/-!
# Queues, credit and places, kept by every step

Every command, built from the changes that uphold the laws. A request accepted and a response placed take a place of the control queue, and
are the two changes whose bound is looked at on its own (R145, R149).
-/

namespace Sys2Proof.Machine

-- One theorem is elaborated after the other: many at once need too many threads.
set_option Elab.async false

section commands
variable {s t u : State}

/-- A branch of an effect. -/
theorem upholds_ite {c : Prop} [Decidable c] (h : c → Upholds s t) (h' : ¬ c → Upholds s u) : Upholds s (if c then t else u) := by
  split
  · next hc => exact h hc
  · next hc => exact h' hc

theorem foldl_upholds {α : Type} (f : State → α → State) (hf : ∀ s a, Upholds s (f s a)) (l : List α) (s : State) : Upholds s (l.foldl f s) := by
  induction l generalizing s with
  | nil => exact .refl s
  | cons a rest ih => exact (hf s a).trans (ih _)

/-! ### Event intake and node presence -/

theorem Upholds.heard (p : Port) (n : Node) (s : State) : Upholds s (heard p n s) := by
  have h := fun f g => (Upholds.modNode s p n f).trans (.modPort _ p g)
  unfold Machine.heard
  dsimp only
  split
  · exact (h _ _).trans (.raiseNotice _ _ _)
  · exact (h _ _).trans (.raiseNotice _ _ _)
  · exact h _ _
  · exact h _ _

theorem Upholds.received (p : Port) (n : Node) (f : State → State) (hf : ∀ s, Upholds s (f s)) (s : State) :
    Upholds s (if receives s p then accepted p n f s else s) :=
  upholds_ite (fun _ => ((Upholds.modPort s p _).trans (.heard p n _)).trans (hf _)) fun _ => .refl s

theorem Upholds.recordCount (i : EntryIdx) (c : RaiseCount) (s : State) : Upholds s (recordCount i c s) := .modEntry s i _

theorem Upholds.raiseEffect (i : EntryIdx) {n : Nat} (h1 : 1 ≤ n) (h2 : n ≤ 255) (s : State) : Upholds s (raiseEffect i n s) := by
  cases ht : (s.entry i).workTrigger with
  | edge => rw [raiseEffect_edge ht]; exact .edgeRaise i ht h1 h2
  | level => rw [raiseEffect_level ht]; exact .levelAssert i s

theorem Upholds.countAndRecord (p : Port) (i : EntryIdx) (c : RaiseCount) (m : Nat) (s : State) :
    Upholds s (Machine.recordCount i c (countMissed s p m)) := (Upholds.modPort s p _).trans (.recordCount i c _)

theorem Upholds.knownRaise (p : Port) (i : EntryIdx) (c : RaiseCount) {diff : Nat} (h1 : 1 ≤ diff) (h2 : diff ≤ 15) (s : State) :
    Upholds s (knownRaise p i c diff s) := (Upholds.countAndRecord p i c _ s).trans (.raiseEffect i h1 (by omega) _)

theorem Upholds.knownDrop (p : Port) (i : EntryIdx) (c : RaiseCount) {diff : Nat} (h1 : 1 ≤ diff) (h2 : diff ≤ 15) (s : State) :
    Upholds s (knownDrop p i c diff s) := by
  have h := Upholds.countAndRecord p i c diff s
  cases ht : (s.entry i).workTrigger with
  | edge =>
    rw [knownDrop_edge ht]
    exact (h.trans (.edgeRaise i (by rw [recordCount_workTrigger]; exact ht) h1 (by omega))).trans (.deassert i _)
  | level => rw [knownDrop_level ht]; exact h.trans (.deassert i _)

theorem Upholds.reconcileRaise (p : Port) (i : EntryIdx) (c : RaiseCount) (s : State) : Upholds s (reconcileRaise p i c s) := by
  unfold Machine.reconcileRaise
  split
  · exact (Upholds.recordCount i c s).trans (.raiseEffect i le_rfl (by omega) _)
  · next r _ => exact upholds_ite (fun _ => .modPort s p _) fun hd => .knownRaise p i c (by omega) (raiseDiff_le r c) s

theorem Upholds.reconcileDrop (p : Port) (i : EntryIdx) (c : RaiseCount) (s : State) : Upholds s (reconcileDrop p i c s) := by
  unfold Machine.reconcileDrop
  split
  · exact (Upholds.recordCount i c s).trans (.deassert i _)
  · next r _ =>
    exact upholds_ite (fun _ => upholds_ite (fun _ => .deassert i s) fun _ => .modPort s p _) fun hd =>
      .knownDrop p i c (by omega) (raiseDiff_le r c) s

theorem Upholds.adoptPresent (i : EntryIdx) (v : Bool) (c : RaiseCount) (s : State) : Upholds s (adoptPresent i v c s) := by
  have h := Upholds.recordCount i c s
  refine upholds_ite (fun _ => ?_) fun _ => h
  split
  · exact h.trans (.modEntry _ i _)
  · exact h.trans (.levelAssert i _)

theorem Upholds.reconcilePresent (p : Port) (i : EntryIdx) (v : Bool) (c : RaiseCount) (s : State) :
    Upholds s (reconcilePresent p i v c s) := by
  unfold Machine.reconcilePresent
  split
  · exact .adoptPresent i v c s
  · next r _ =>
    exact upholds_ite (fun _ => upholds_ite (fun _ => .refl s) fun _ => .deassert i s) fun hd =>
      upholds_ite (fun _ => .knownRaise p i c (by omega) (raiseDiff_le r c) s) fun _ => .knownDrop p i c (by omega) (raiseDiff_le r c) s

theorem Upholds.absentLine (i : EntryIdx) (s : State) : Upholds s (absentLine i s) := (Upholds.deassert i s).trans (.modEntry _ i _)

theorem Upholds.nodeAbsence (p : Port) (n : Node) (s : State) : Upholds s (nodeAbsence p n s) :=
  ((((Upholds.modNode s p n _).trans (.modPort _ p _)).trans (.absentLine _ _)).trans (.absentLine _ _)).trans (.raiseNotice _ _ _)

theorem Upholds.portLoss (p : Port) (s : State) : Upholds s (portLoss p s) := by
  unfold Machine.portLoss
  exact ((Upholds.modPort s p _).trans (foldl_upholds _ (fun u n => upholds_ite (fun _ => .nodeAbsence p n u) fun _ => .refl u) _ _)).trans
    (.raiseNotice _ _ _)

theorem Upholds.portGain (p : Port) (s : State) : Upholds s (portGain p s) := (Upholds.modPort s p _).trans (.raiseNotice _ _ _)

/-! ### The park handshake and the wakes -/

theorem LaneSteady.wakeOnEntry (p w : Bool) (l : Lane) : LaneSteady l (wakeOnEntry p w l) := by
  unfold Machine.wakeOnEntry
  split
  · exact .wake true l
  · split
    · exact .wake false l
    · exact {}

theorem LaneSteady.deepParkIfDue (due : Bool) (l : Lane) : LaneSteady l (deepParkIfDue due l) := by
  unfold Machine.deepParkIfDue
  split
  · next h => exact { live := by rw [h.2]; rfl }
  · exact {}

theorem LaneSteady.parkAccepted (d : Depth) (w : Bool) {l : Lane} (hl : l.state.live = true) : LaneSteady l (parkAccepted d w l) := by
  refine LaneSteady.trans ?_ ((LaneSteady.wakeOnEntry _ w _).trans (.deepParkIfDue _ _))
  cases d with
  | doze | deep => exact { live := hl.symm }

theorem LaneSteady.parkDeclined (d : Depth) (w : Bool) {l : Lane} (hl : l.state.live = true) : LaneSteady l (parkDeclined d w l) := by
  cases d with
  | doze => exact { live := hl.symm }
  | deep =>
    refine LaneSteady.trans ?_ (.wakeOnEntry l.wakePending w _)
    exact { live := hl.symm }

theorem LaneSteady.hostWakes (l : Lane) : LaneSteady l l.hostWakes := by
  unfold Lane.hostWakes
  split
  · exact {}
  · exact .wake false l
  · exact .wake false l
  all_goals exact {}

/-- A lane whose PARK is granted is live: it is PARKING (R128). -/
theorem live_of_parkGranted {l : Lane} {d : Depth} (h : l.parkGranted = some d) : l.state.live = true := by
  unfold Lane.parkGranted at h
  split at h
  · next hs _ => rw [hs]; rfl
  · cases h

theorem Upholds.frameWakes (k : LaneId) (s : State) : Upholds s (frameWakes k s) := by
  unfold Machine.frameWakes
  split
  · next h =>
    dsimp only
    split
    · exact (Upholds.steady s k _ { live := by rw [h]; rfl }).trans (.count _ k _)
    · exact .steady s k _ { live := by rw [h]; rfl }
  · next h => exact .steady s k _ { live := by rw [h]; rfl }
  · next h => exact .steady s k _ { live := by rw [h]; rfl }
  · next h => exact .steady s k _ { live := by rw [h]; rfl }
  all_goals exact .refl s

theorem Upholds.hostFrame (k : LaneId) (take : State → State) (h : ∀ s, Upholds s (take s)) (s : State) : Upholds s (hostFrame k take s) :=
  upholds_ite (fun _ => (Upholds.frameWakes k s).trans (h _)) fun _ => .refl s

theorem Upholds.takeRetire (k : LaneId) (v : Byte) (s : State) : Upholds s (takeRetire k v s) := by
  have hm : ∀ i ∈ matchingSet s k v, ∃ k v, (s.entry i).state = .outstanding k v := fun i hi => ⟨k, v, (matchingSet_mem s k v i).mp hi⟩
  unfold Machine.takeRetire
  dsimp only
  split
  · exact ((Upholds.count s k _).trans (.count _ k _)).trans (.raiseNotice _ _ _)
  · exact (Upholds.count s k _).trans (.releaseAll (rowsWhere_nodup _ _) hm)

/-- Credit taken stays within the limit (R76 to R78). -/
theorem Upholds.takeCredit (k : LaneId) (c : Byte) (s : State) : Upholds s (takeCredit k c s) := by
  have hset : ∀ n, n ≤ (s.lane k).creditLimit.getD 0 → Upholds s (s.modLane k fun l => { l with availableCredit := n }) := fun n hn => by
    refine .ofLane s k _ rfl rfl id ⟨fun h => ?_, le_rfl, id⟩
    unfold CreditFits at h ⊢
    dsimp only
    cases hm : (s.lane k).creditLimit with
    | none =>
      rw [hm] at h hn
      obtain ⟨hl, -⟩ := h
      exact ⟨hl, Nat.le_zero.mp hn⟩
    | some m =>
      rw [hm] at h hn
      obtain ⟨hl, h1, h64, -⟩ := h
      exact ⟨hl, h1, h64, hn⟩
  exact upholds_ite (fun _ => .refl s) fun _ => upholds_ite (hset _) fun _ =>
    ((hset _ le_rfl).trans (.count _ k _)).trans (.raiseNotice _ _ _)

/-! ### The lane transmitter -/

theorem Upholds.startSending (k : LaneId) (f : LaneFrame) (s : State) : Upholds s (startSending k f s) := .modLane s k _

/-- The oldest frame leaves a control queue (R135). -/
theorem Upholds.controlLeaves {k : LaneId} {r : Response} {rest : List Response} (h : (s.lane k).control = r :: rest) :
    Upholds s (s.modLane k fun l => { l with control := rest }) :=
  .ofLane s k _ rfl rfl id ⟨fun hc => hc.congr rfl rfl rfl, by rw [h]; exact Nat.le_succ _, id⟩

/-! ### The operations of management -/

theorem Upholds.withOperand {α : Type} (o : Option α) {body : α → State → Reply} (h : ∀ a s, Upholds s (body a s).after) (s : State) :
    Upholds s (withOperand o body s).after := by
  cases o with
  | none => exact .refl s
  | some a => exact h a s

theorem Upholds.stage (k : LaneId) (r : StagedRecord) (s : State) : Upholds s (stage k r s).after := by
  have h : Upholds s (rewindReaders s) := .mapLanes s _
  unfold Machine.stage
  split
  · exact .refl s
  · split
    · exact h.trans .of
    · split
      · exact .refl s
      · exact h.trans .of

theorem Upholds.discardStaging (k : LaneId) (s : State) : Upholds s (discardStaging k s).after := by
  unfold Machine.discardStaging
  split
  · exact .refl s
  · split
    · exact .refl s
    · exact .clearStaging s

theorem Upholds.applyCommit (s : State) : Upholds s (applyCommit s) := by
  have hgroup : ∀ (u : State) r, Upholds u (applyGroupRecord r u) := fun u r => by
    cases r with
    | entry i img => exact .refl u
    | group g c => exact .of
  have hentry : ∀ (u : State) r, Upholds u (applyEntryRecord r u) := fun u r => by
    cases r with
    | entry i img => exact .applyEntry i img u
    | group g c => exact .refl u
  exact (((foldl_upholds _ hgroup _ s).trans (foldl_upholds _ hentry _ _)).trans
    (.offerAll ((rowsWhere_nodup _ _).filter _) fun i hi => ((strandedWhere_mem _ _ i).mp (List.mem_of_mem_filter hi)).1)).trans
    (.clearStaging _)

theorem Upholds.commitStaging (k : LaneId) (s : State) : Upholds s (commitStaging k s).after := by
  unfold Machine.commitStaging
  split
  · exact .refl s
  · split
    · exact .refl s
    · split
      · exact .refl s
      · exact .applyCommit s

/-- Settings written: a live lane that is disabled is lost, and any other change of state is between DOWN and DISABLED (R116, R157). -/
theorem Upholds.writeSettings (j : LaneId) (st : LaneSettings) (s : State) : Upholds s (writeSettings j st s) := by
  have h : Upholds s (s.modLane j fun l => { l with settings := st }) := .modLane s j _
  unfold Machine.writeSettings
  dsimp only
  split
  · refine upholds_ite (fun _ => h.trans (.laneLoss j _ _)) fun hl => h.trans (.steady _ j _ { live := ?_ })
    rw [lane_modLane_same]
    exact (Bool.not_eq_true _ ▸ hl).symm
  · refine h.trans (.modLane _ j _ fun l => { live := ?_ })
    dsimp only
    split
    · next hs => rw [hs]; rfl
    · rfl
  · exact h
  · exact h

theorem Upholds.setLaneBody (k : LaneId) (a : LaneId × LaneSettings) (s : State) : Upholds s (setLaneBody k a s).after := by
  unfold Machine.setLaneBody
  split
  · exact .refl s
  · split
    · exact .refl s
    · exact .writeSettings a.1 a.2 s

theorem Upholds.writeManager (k : LaneId) (s : State) : Upholds s (writeManager k s) := by
  have h : Upholds s { s with manager := k } := .of
  exact upholds_ite (fun _ => .refl s) fun _ => upholds_ite (fun _ => h.trans (.workToSend _ k)) fun _ => h

theorem Upholds.zeroCounters (t : CounterTarget) (s : State) : Upholds s (zeroCounters t s) := by
  cases t with
  | lane k => exact .modLane s k fun l => { l with counters := .zero }
  | port p => exact .modPort s p fun r => { r with framesAccepted := 0, framesDiscarded := 0, duplicates := 0, missedRaises := 0 }

theorem Upholds.forceRetireBody (i : EntryIdx) (s : State) : Upholds s (forceRetireBody i s).after := by
  unfold Machine.forceRetireBody
  split
  · next k v h => exact .releaseAll (is := [i]) (by simp) (by simpa using ⟨k, v, h⟩)
  · exact .refl s

theorem Upholds.startSweepBody (s : State) : Upholds s (startSweepBody s).after := by
  unfold Machine.startSweepBody
  split
  · exact .refl s
  · exact .of

/-! ### The Table Sweep and the resets -/

theorem Upholds.visitEntry (i : EntryIdx) (s : State) : Upholds s (visitEntry i s) :=
  upholds_ite (fun _ => .refl s) fun _ => (Upholds.quarantineFound i s).trans .of

theorem Upholds.advanceSweep (s : State) : Upholds s (advanceSweep s) :=
  upholds_ite (fun _ => .of) fun _ => Upholds.trans .of (.raiseNotice _ _ _)

theorem Upholds.restartAll (s : State) : Upholds s (restartAll s) := by
  refine .clears (fun i => ?_) fun k => ?_
  · rw [restartAll_entry]; exact ⟨rfl, rfl, rfl⟩
  · rw [restartAll_lane]
    exact ⟨rfl, rfl, by rw [restartLane_state]; split <;> rfl, rfl, rfl, rfl, rfl⟩

theorem Upholds.powerOn (lanes wakes : List LaneId) (s : State) :
    Upholds s (detectLanes lanes wakes { State.reset with pending := s.pending }) := by
  refine .clears (fun i => ?_) fun k => ?_
  · rw [detectLanes, mapLanes_entry, entry_with_pending, powerOn_entry]
    exact ⟨rfl, rfl, rfl⟩
  · rw [detectLanes, lane_mapLanes, lane_with_pending, powerOn_lane]
    exact ⟨rfl, rfl, rfl, rfl, rfl, rfl, rfl⟩

theorem Upholds.detectPorts (ports : List Port) (s : State) : Upholds s (detectPorts ports s) :=
  foldl_upholds _ (fun u p => upholds_ite (fun _ => .refl u) fun _ => .portGain p u) ports s

/-! ### Places taken: a request accepted, a response placed -/

/-- What every step keeps. -/
structure LawsKept (s t : State) : Prop where
  laws : QueueLaws s → QueueLaws t
  credit : CreditSound s → CreditSound t
  places : PlacesSound s → PlacesSound t

theorem Upholds.lawsKept (h : Upholds s t) : LawsKept s t where
  laws := h.laws
  credit hs := (creditSound_iff t).mpr fun k => (h.accounts k).credit ((creditSound_iff s).mp hs k)
  places hs k := (h.accounts k).places.trans (hs k)

theorem LawsKept.trans (h : LawsKept s t) (h' : LawsKept t u) : LawsKept s u :=
  ⟨fun hs => h'.laws (h.laws hs), fun hs => h'.credit (h.credit hs), fun hs => h'.places (h.places hs)⟩

/-- After an event that upholds the laws, one lane's control queue and slot are set within its places. -/
theorem LawsKept.setPlaces (h : Upholds s t) (k : LaneId) (c : List Response) (r : Option Request)
    (hp : placesTaken (s.lane k) ≤ 4 → c.length + (if r.isSome then 1 else 0) ≤ 4) :
    LawsKept s (t.modLane k fun l => { l with control := c, slot := r }) where
  laws hs := (h.laws hs).quiet (.modLane t k _) fun j hj => by
    rw [State.live, lane_modLane]
    split
    · next e => rw [e] at hj; exact hj
    · exact hj
  credit hs := by
    have hc := (creditSound_iff t).mp (h.lawsKept.credit hs)
    refine (creditSound_iff _).mpr fun j => ?_
    rw [lane_modLane]
    split
    · exact (hc k).congr rfl rfl rfl
    · exact hc j
  places hs j := by
    rw [lane_modLane]
    split
    · exact hp (hs k)
    · exact h.lawsKept.places hs j

/-- A frame placed at the tail of a control queue (R134, R135). -/
theorem LawsKept.placeResponse (h : Upholds s t) (k : LaneId) (c : List Response) (r : Option Request)
    (hp : placesTaken (s.lane k) ≤ 4 → c.length + (if r.isSome then 1 else 0) ≤ 4) :
    LawsKept s (t.modLane k fun l => Lane.workToSend { l with control := c, slot := r }) := by
  rw [← modLane_modLane t k (fun l => { l with control := c, slot := r }) Lane.workToSend]
  exact (LawsKept.setPlaces h k c r hp).trans (Upholds.workToSend _ k).lawsKept

/-- A request is accepted, or refused, only with a place free (R145). -/
theorem LawsKept.takeRequest (k : LaneId) (payload : List Byte) (s : State) : LawsKept s (takeRequest k payload s) := by
  have hdropped : LawsKept s (countDropped s k) := (Upholds.count s k _).lawsKept
  unfold Machine.takeRequest
  split
  · next tag op args =>
    split
    · exact hdropped
    · next hfree =>
      replace hfree : placesTaken (s.lane k) < 4 := Nat.not_le.mp hfree
      unfold placesTaken at hfree
      split
      · next hfull =>
        have hp := LawsKept.placeResponse (.refl s) k
          ((s.lane k).control ++ [{ tag := tag, op := op, outcome := .refusedBusy, data := [] }]) (s.lane k).slot fun _ => by
            rw [List.length_append, List.length_singleton]
            omega
        rw [queueControl, State.workToSend, modLane_modLane]
        rwa [modLane_congr (g := fun l => Lane.workToSend
          { l with control := l.control ++ [{ tag := tag, op := op, outcome := .refusedBusy, data := [] }] }) rfl] at hp
      · next hempty =>
        rw [if_neg hempty] at hfree
        have hp := LawsKept.setPlaces (.refl s) k (s.lane k).control (some { tag := tag, op := op, args := args }) fun _ => hfree
        rwa [modLane_congr (g := fun l => { l with slot := some { tag := tag, op := op, args := args } }) rfl] at hp
  · exact hdropped

/-- A response takes the place kept for its request (R149). -/
theorem LawsKept.answered (h : Upholds s t) {k : LaneId} (hs : (s.lane k).slot.isSome = true) (r : Request) (o : MgmtOutcome)
    (d : List Byte) : LawsKept s (answered k r o d t) := by
  have hp := LawsKept.placeResponse h k ((t.lane k).control ++ [{ tag := r.tag, op := r.op, outcome := o, data := d }]) none fun hp => by
    have hc := (h.accounts k).control
    rw [placesTaken, if_pos hs] at hp
    rw [List.length_append, List.length_singleton, Option.isSome_none, if_neg Bool.false_ne_true]
    omega
  rwa [modLane_congr (g := fun l => Lane.workToSend
    { l with slot := none, control := l.control ++ [{ tag := r.tag, op := r.op, outcome := o, data := d }] }) rfl] at hp

/-! ### Every command, and every step -/

/-- An event whose effect keeps the laws. -/
theorem event_keeps {c : Option LaneId} {f : State → State} (h : LawsKept s (f s)) : ∃ t, event c s f = .next t ∧ LawsKept s t :=
  ⟨_, event_next c s f, h.trans (Upholds.settle c s (f s)).lawsKept⟩

theorem event_upholds {c : Option LaneId} {f : State → State} (h : Upholds s (f s)) : ∃ t, event c s f = .next t ∧ LawsKept s t :=
  event_keeps h.lawsKept

/-- The service of an operation that upholds the laws, as an event. -/
theorem service_keeps (code : Nat) (write : Bool) {body : LaneId → List Byte → State → Reply}
    (h : ∀ k args s, Upholds s (body k args s).after) (s : State) : ∃ t, event none s (serve code write body) = .next t ∧ LawsKept s t := by
  refine event_keeps ?_
  have hp : ∀ k, Upholds s { s with pointer := k } := fun k => .of
  have hslot : ∀ {k r}, nextRequest s = some (k, r) → (s.lane k).slot.isSome = true := fun hn => by
    rw [(nextRequest_slot hn).2]
    rfl
  rcases serve_cases code write body s with ⟨e, -⟩ | ⟨k, r, hn, -, ⟨-, e⟩ | ⟨-, e⟩⟩
  · rw [e]; exact (Upholds.refl s).lawsKept
  · rw [e]; exact .answered (hp k) (hslot hn) r _ _
  · rw [e]; exact .answered ((hp k).trans (h k r.args _)) (hslot hn) r _ _

/-- An operation that answers from its operand and changes nothing. -/
theorem readService_keeps {α : Type} (code : Nat) (o : LaneId → List Byte → Option α) (f : LaneId → α → State → List Byte) (s : State) :
    ∃ t, event none s (serve code false fun k args => withOperand (o k args) fun a s => answer (f k a s) s) = .next t ∧ LawsKept s t :=
  service_keeps code false (fun k args s => .withOperand (o k args) (fun _ u => .refl u) s) s

theorem refusedUnknown_keeps (s : State) : ∃ t, execRefusedUnknown s = .next t ∧ LawsKept s t := by
  refine event_keeps ?_
  split
  · next k r hn =>
    split
    · exact (Upholds.refl s).lawsKept
    · rw [respond_eq]
      exact .answered .of (by rw [(nextRequest_slot hn).2]; rfl) r _ _
  · exact (Upholds.refl s).lawsKept

theorem mgmtRequest_keeps (k : LaneId) (payload : List Byte) (s : State) : ∃ t, execMgmtRequest k payload s = .next t ∧ LawsKept s t := by
  refine event_keeps ?_
  unfold hostFrame
  split
  · exact (Upholds.frameWakes k s).lawsKept.trans (.takeRequest k payload _)
  · exact (Upholds.refl s).lawsKept

theorem quietTimerExpiry_keeps (p : Port) (n : Node) (s : State) : ∃ t, execQuietTimerExpiry p n s = .next t ∧ LawsKept s t := by
  refine event_upholds (upholds_ite (fun _ => ?_) fun _ => .refl s)
  split
  · exact (Upholds.modNode s p n _).trans (.modPort _ p _)
  · exact .nodeAbsence p n s
  · exact .modNode s p n _
  · exact .modNode s p n _

theorem probe_keeps (p : Port) (s : State) : ∃ t, execProbe p s = .next t ∧ LawsKept s t := by
  refine event_upholds ?_
  split
  · exact (Upholds.modPort s p _).trans (.modNode _ p _ _)
  · exact .refl s

theorem rollcall_keeps (p : Port) (s : State) : ∃ t, execRollcall p s = .next t ∧ LawsKept s t := by
  refine event_upholds ?_
  split
  · exact .modPort s p _
  · exact .refl s

theorem storageFault_keeps (i : EntryIdx) (f : StorageFault) (s : State) : ∃ t, execStorageFault i f s = .next t ∧ LawsKept s t := by
  cases f <;> exact event_upholds (.modEntry s i _)

theorem hello_keeps (k : LaneId) (limit : Byte) (s : State) : ∃ t, execHello k limit s = .next t ∧ LawsKept s t :=
  event_upholds <| upholds_ite (fun _ => upholds_ite (fun _ => (Upholds.laneLoss k _ s).trans (.helloDown k limit _)) fun _ =>
    upholds_ite (fun _ => .helloDown k limit s) fun _ => .refl s) fun _ => .refl s

/-- The host wake input seen with a reply to a PARK leaves the lane live. -/
theorem hostWakeSeen_live {k : LaneId} {d : Depth} (h : (s.lane k).parkGranted = some d) (w : Bool) :
    ((s.modLane k fun l => { l with hostWake := w }).lane k).state.live = true := by
  rw [lane_modLane_same]
  exact live_of_parkGranted h

theorem parkAck_keeps (k : LaneId) (w : Bool) (s : State) : ∃ t, execParkAck k w s = .next t ∧ LawsKept s t := by
  have h : Upholds s (s.modLane k fun l => { l with hostWake := w }) := .modLane s k _
  refine event_upholds (upholds_ite (fun _ => ?_) fun _ => .refl s)
  dsimp only
  split
  · next d hd => exact h.trans (.steady _ k _ (.parkAccepted d w (hostWakeSeen_live hd w)))
  · exact h.trans (.hostFrame k id .refl _)

theorem parkNak_keeps (k : LaneId) (w : Bool) (s : State) : ∃ t, execParkNak k w s = .next t ∧ LawsKept s t := by
  have h : Upholds s (s.modLane k fun l => { l with hostWake := w }) := .modLane s k _
  refine event_upholds (upholds_ite (fun _ => ?_) fun _ => .refl s)
  dsimp only
  split
  · next d hd => exact (h.trans (.steady _ k _ (.parkDeclined d w (hostWakeSeen_live hd w)))).trans (.count _ k _)
  · exact h.trans (.hostFrame k id .refl _)

theorem parkReplyTimeout_keeps (k : LaneId) (w : Bool) (s : State) : ∃ t, execParkReplyTimeout k w s = .next t ∧ LawsKept s t := by
  refine event_upholds ?_
  split
  · next d hd =>
    refine Upholds.trans (.steady s k _ (LaneSteady.trans (m := { s.lane k with hostWake := w }) {} ?_)) (.count _ k _)
    exact .parkDeclined d w (live_of_parkGranted hd)
  · exact .modLane s k _

theorem laneFrameDiscarded_keeps (k : LaneId) (bytes : List Byte) (s : State) :
    ∃ t, execLaneFrameDiscarded k bytes s = .next t ∧ LawsKept s t := by
  unfold execLaneFrameDiscarded
  split
  · exact event_upholds (.count s k _)
  · exact event_upholds (.refl s)

theorem laneLinkLost_keeps (k : LaneId) (s : State) : ∃ t, execLaneLinkLost k s = .next t ∧ LawsKept s t :=
  event_upholds <| upholds_ite (fun _ => upholds_ite (fun _ => .laneLoss k _ s) fun _ => .modLane s k _) fun _ => .refl s

theorem hostWakeRaised_keeps (k : LaneId) (s : State) : ∃ t, execHostWakeRaised k s = .next t ∧ LawsKept s t := by
  refine event_upholds (.modLane s k _ fun l => ?_)
  split
  · exact LaneSteady.trans (m := { l with hostWake := true }) {} (.hostWakes _)
  · exact {}

theorem idleTimerExpiry_keeps (k : LaneId) (s : State) : ∃ t, execIdleTimerExpiry k s = .next t ∧ LawsKept s t := by
  refine event_upholds (.modLane s k _ fun l => ?_)
  split
  · next h => exact { live := by rw [h.2]; rfl }
  · exact {}

theorem deepTimerExpiry_keeps (k : LaneId) (s : State) : ∃ t, execDeepTimerExpiry k s = .next t ∧ LawsKept s t := by
  refine event_upholds (.modLane s k _ fun l => ?_)
  split
  · next h => exact { live := by rw [h]; rfl }
  all_goals exact {}

theorem wakeTimerExpiry_keeps (k : LaneId) (s : State) : ∃ t, execWakeTimerExpiry k s = .next t ∧ LawsKept s t :=
  event_upholds <| upholds_ite (fun _ => .laneLoss k _ s) fun _ => .modLane s k _

theorem helloReplyGrant_keeps (k : LaneId) (s : State) : ∃ t, execHelloReplyGrant k s = .next t ∧ LawsKept s t := by
  refine event_upholds ?_
  split
  · exact (Upholds.modLane s k _).trans (.startSending k _ _)
  · exact .refl s

theorem parkGrant_keeps (k : LaneId) (s : State) : ∃ t, execParkGrant k s = .next t ∧ LawsKept s t := by
  refine event_upholds ?_
  split
  · exact (Upholds.modLane s k _).trans (.startSending k _ _)
  · exact .refl s

theorem mgmtResponseGrant_keeps (k : LaneId) (s : State) : ∃ t, execMgmtResponseGrant k s = .next t ∧ LawsKept s t := by
  refine event_upholds ?_
  split
  · next hc => exact (Upholds.controlLeaves hc).trans (.startSending k _ _)
  · exact .refl s

theorem noticeGrant_keeps (s : State) : ∃ t, execNoticeGrant s = .next t ∧ LawsKept s t := by
  refine event_upholds ?_
  split
  · exact (Upholds.setNotice s _ _).trans (.startSending _ _ _)
  · exact .refl s

theorem send_keeps (k : LaneId) (s : State) : ∃ t, execSend k s = .next t ∧ LawsKept s t := by
  refine event_upholds ?_
  split
  · next hq => exact .sendHead hq
  · exact .refl s

theorem transmissionComplete_keeps (k : LaneId) (s : State) : ∃ t, execTransmissionComplete k s = .next t ∧ LawsKept s t := by
  have h : Upholds s (s.modLane k fun l => { l with sending := none }) := .modLane s k _
  refine event_upholds ?_
  split
  · exact upholds_ite (fun _ => h.trans .of) fun _ => h
  · exact .refl s

theorem sweepVisit_keeps (s : State) : ∃ t, execSweepVisit s = .next t ∧ LawsKept s t := by
  refine event_upholds ?_
  split
  · exact (Upholds.visitEntry _ s).trans (.advanceSweep _)
  · exact .of

theorem portLinkGained_keeps (p : Port) (s : State) : ∃ t, execPortLinkGained p s = .next t ∧ LawsKept s t :=
  event_upholds (upholds_ite (fun _ => .refl s) fun _ => .portGain p s)

theorem laneLinkGained_keeps (k : LaneId) (s : State) : ∃ t, execLaneLinkGained k s = .next t ∧ LawsKept s t :=
  event_upholds (Upholds.modLane s k _)

theorem portTransmissionComplete_keeps (p : Port) (s : State) : ∃ t, execPortTransmissionComplete p s = .next t ∧ LawsKept s t :=
  event_upholds (Upholds.modPort s p _)

theorem powerOnReset_keeps (ports : List Port) (lanes wakes : List LaneId) (s : State) :
    ∃ t, execPowerOnReset ports lanes wakes s = .next t ∧ LawsKept s t :=
  event_upholds ((Upholds.powerOn lanes wakes s).trans (.detectPorts ports _))

/-- Every command keeps the laws. -/
theorem exec_keeps (c : Instr) (s : State) : ∃ t, exec c s = .next t ∧ LawsKept s t := by
  cases c with
  | raise p n l c => exact event_upholds (.received p n _ (.reconcileRaise p _ c) s)
  | drop p n l c => exact event_upholds (.received p n _ (.reconcileDrop p _ c) s)
  | present p n v0 c0 v1 c1 =>
    exact event_upholds (.received p n _ (fun u => (Upholds.reconcilePresent p _ v0 c0 u).trans (.reconcilePresent p _ v1 c1 _)) s)
  | fieldFrameDiscarded p b => exact event_upholds (upholds_ite (fun _ => .modPort s p _) fun _ => .refl s)
  | portLinkLoss p => exact event_upholds (upholds_ite (fun _ => .portLoss p s) fun _ => .refl s)
  | portLinkGained p => exact portLinkGained_keeps p s
  | quietTimerExpiry p n => exact quietTimerExpiry_keeps p n s
  | probe p => exact probe_keeps p s
  | rollcall p => exact rollcall_keeps p s
  | storageFault i f => exact storageFault_keeps i f s
  | hello k m => exact hello_keeps k m s
  | goodbye k => exact event_upholds (upholds_ite (fun _ => .laneLoss k _ s) fun _ => .refl s)
  | retire k v => exact event_upholds (.hostFrame k _ (.takeRetire k v) s)
  | credit k c => exact event_upholds (.hostFrame k _ (.takeCredit k c) s)
  | mgmtRequest k payload => exact mgmtRequest_keeps k payload s
  | parkAck k w => exact parkAck_keeps k w s
  | parkNak k w => exact parkNak_keeps k w s
  | ready k => exact event_upholds (.hostFrame k id .refl s)
  | laneFrameDiscarded k b => exact laneFrameDiscarded_keeps k b s
  | laneLinkLost k => exact laneLinkLost_keeps k s
  | laneLinkGained k => exact laneLinkGained_keeps k s
  | hostWakeRaised k => exact hostWakeRaised_keeps k s
  | idleTimerExpiry k => exact idleTimerExpiry_keeps k s
  | deepTimerExpiry k => exact deepTimerExpiry_keeps k s
  | parkReplyTimeout k w => exact parkReplyTimeout_keeps k w s
  | wakeTimerExpiry k => exact wakeTimerExpiry_keeps k s
  | helloReplyGrant k => exact helloReplyGrant_keeps k s
  | parkGrant k => exact parkGrant_keeps k s
  | mgmtResponseGrant k => exact mgmtResponseGrant_keeps k s
  | noticeGrant => exact noticeGrant_keeps s
  | send k => exact send_keeps k s
  | transmissionComplete k => exact transmissionComplete_keeps k s
  | restartEvent => exact event_upholds (upholds_ite (fun _ => .restartAll s) fun _ => .refl s)
  | identify => exact service_keeps 0x01 false (fun _ _ u => .refl u) s
  | readEntry => exact readService_keeps 0x02 _ _ s
  | readGroup => exact readService_keeps 0x03 _ _ s
  | readLane w => exact readService_keeps 0x04 _ _ s
  | readNode => exact readService_keeps 0x05 _ _ s
  | readPort => exact readService_keeps 0x06 _ _ s
  | readNotices => exact service_keeps 0x07 false (fun _ _ u => .refl u) s
  | readStaging => exact service_keeps 0x08 false (fun k _ u => .modLane u k fun l => { l with readPos := nextReadPos u k }) s
  | readSweep => exact service_keeps 0x09 false (fun _ _ u => .refl u) s
  | stageEntry => exact service_keeps 0x0A true (fun k _ => .withOperand _ (.stage k)) s
  | stageGroup => exact service_keeps 0x0B true (fun k _ => .withOperand _ (.stage k)) s
  | commit => exact service_keeps 0x0C true (fun k _ => .commitStaging k) s
  | discard => exact service_keeps 0x0D true (fun k _ => .discardStaging k) s
  | setLane => exact service_keeps 0x0E true (fun k _ => .withOperand _ (.setLaneBody k)) s
  | setPort => exact service_keeps 0x0F true (fun _ _ => .withOperand _ fun a u => .modPort u a.1 fun r => { r with quietTime := a.2 }) s
  | setManager => exact service_keeps 0x10 true (fun _ _ => .withOperand _ .writeManager) s
  | clearNotices =>
    exact service_keeps 0x11 true (fun _ _ => .withOperand _ (foldl_upholds _ fun u kind => .setNotice u kind .clear)) s
  | clearCounters => exact service_keeps 0x12 true (fun _ _ => .withOperand _ .zeroCounters) s
  | forceRetire => exact service_keeps 0x13 true (fun _ _ => .withOperand _ .forceRetireBody) s
  | startSweep => exact service_keeps 0x14 true (fun _ _ => .startSweepBody) s
  | restart => exact service_keeps 0x15 true (fun _ _ _ => .of) s
  | sweepVisit => exact sweepVisit_keeps s
  | powerOnReset ports lanes wakes => exact powerOnReset_keeps ports lanes wakes s
  | refusedUnknown => exact refusedUnknown_keeps s
  | portTransmissionComplete p => exact portTransmissionComplete_keeps p s

/-- The passing of a microsecond. -/
theorem Upholds.advance (s : State) : Upholds s (advance s) :=
  (Upholds.mapLanes s fun _ l =>
    { l with
      idleTimer := tickTimer l.idleTimer, deepTimer := tickTimer l.deepTimer
      parkReplyTimer := tickTimer l.parkReplyTimer, wakeTimer := tickTimer l.wakeTimer }).trans .of

/-- Every step keeps the laws. -/
theorem step_keeps (h : step s = .next t) : LawsKept s t := by
  have next : ∀ c u, exec c u = .next t → LawsKept u t := fun c u e => by
    obtain ⟨v, hv, hk⟩ := exec_keeps c u
    rw [hv] at e
    cases e
    exact hk
  unfold step at h
  split at h
  · next c rest _ => exact (Upholds.of (s := s) (t := { s with pending := rest })).lawsKept.trans (next c _ h)
  · split at h
    · next c _ => exact next c s h
    · cases h; exact (Upholds.advance s).lawsKept

end commands

/-- Settles O51: the accounts of every lane stay in their bounds through every change, and a place is taken only where one is free or kept
(R64, R78, R145). -/
theorem laneAccountsAreKept : Obligations.LaneAccountsAreKept := fun _ _ hs => ⟨(step_keeps hs).credit, (step_keeps hs).places⟩

/-- Settles O53: an item leaves a queue with a promotion behind it, an item joins one with room, and a lost lane is emptied within its event
(R66 to R68, R86, R113). -/
theorem queueLawsAreKept : Obligations.QueueLawsAreKept := by
  intro s t hp hd he ho hs
  obtain ⟨-, h⟩ := (queueLaws_iff t).mp ((step_keeps hs).laws ((queueLaws_iff s).mpr ⟨hp, hd, he, ho⟩))
  exact h

end Sys2Proof.Machine

/-!
# FORCE_RETIRE

The management operation that releases one binding by hand (R93), with the release outcome of R89.
-/

namespace Sys2Proof.Machine

-- One theorem is elaborated after the other: many at once need too many threads.
set_option Elab.async false

section release
variable {s : State} {i : EntryIdx}

/-! ### The release of one binding, by the line of its entry: a list of one (R89, R90) -/

theorem release_deasserted (hl : (s.entry i).line = false) :
    settleRelease i (unbind i s) = s.modEntry i fun e => { e with state := .idle, pendingCount := 0 } :=
  releaseAll_eq (fun _ => false) (List.nodup_singleton i) (by simpa using hl)

theorem release_asserted (hl : (s.entry i).line = true) :
    settleRelease i (unbind i s) = offer i (s.modEntry i fun e => { e with state := .idle, pendingCount := 1 }) :=
  calc settleRelease i (unbind i s)
    _ = offer i ((unbind i s).modEntry i fun e => { e with pendingCount := 1 }) :=
      releaseAll_eq (fun _ => true) (List.nodup_singleton i) (by simpa using hl)
    _ = offer i (s.modEntry i fun e => { e with state := .idle, pendingCount := 1 }) := congrArg (offer i) (modEntry_modEntry ..)

/-! ### The operation at its service -/

theorem forceRetireBody_refused (h : ∀ j v, (s.entry i).state ≠ .outstanding j v) : forceRetireBody i s = refuse .refusedState s := by
  unfold forceRetireBody
  split
  · next j v he => exact absurd he (h j v)
  · rfl

theorem forceRetireBody_deasserted {j : LaneId} {v : Byte} (h : (s.entry i).state = .outstanding j v) (hl : (s.entry i).line = false) :
    forceRetireBody i s = answer [oneByte j, v, 0] (s.modEntry i fun e => { e with state := .idle, pendingCount := 0 }) := by
  simp only [forceRetireBody, h, release_deasserted hl, entry_modEntry_same]
  rfl

theorem forceRetireBody_asserted {j : LaneId} {v : Byte} (h : (s.entry i).state = .outstanding j v) (hl : (s.entry i).line = true) :
    forceRetireBody i s =
      let u := offer i (s.modEntry i fun e => { e with state := .idle, pendingCount := 1 })
      answer [oneByte j, v, deliveryCode (u.entry i).state] u := by
  simp only [forceRetireBody, h, release_asserted hl]

end release

/-- Settles O47: the operand names the entry, and the service goes by its binding and its line (R93, R89). -/
theorem forceRetireReleasesOneEntry : Obligations.ForceRetireReleasesOneEntry := by
  intro s k r hi lo rest i h ha hv b
  have served : ∀ reply, forceRetireBody i b = reply →
      ∃ t, exec .forceRetire s = .next t ∧ t.still = (answered k r reply.outcome reply.data reply.after).still := fun reply hb =>
    service_still (c := .forceRetire) rfl h
      ((withOperand_some (by rw [ha]; exact firstEntry_of_value hv rest) forceRetireBody b).trans hb)
  refine ⟨fun hn => ?_, fun j v ho hl => ?_, fun j v ho hl => ?_⟩
  · exact served _ (forceRetireBody_refused hn)
  · exact served _ (forceRetireBody_deasserted ho hl)
  · exact served _ (forceRetireBody_asserted ho hl)

end Sys2Proof.Machine

/-!
# The records of the field side, kept by every step

What the bridge has on record of its nodes: the presence states, the line levels and the raise counts. Most events leave these records as they are.
An accepted frame changes the records of its own node alone, which it makes PRESENT, and node absence clears both lines of the node it makes ABSENT, so
that the laws R33 and R104 hold of every node after every step.
-/

namespace Sys2Proof.Machine

-- One theorem is elaborated after the other: many at once need too many threads.
set_option Elab.async false

/-! ### The records of one line -/

/-- The recorded line level and the raise count stand. -/
structure SameLine (e f : Entry) : Prop where
  line : f.line = e.line := by rfl
  raiseCount : f.raiseCount = e.raiseCount := by rfl

theorem SameLine.trans {e f g : Entry} (h : SameLine e f) (h' : SameLine f g) : SameLine e g :=
  ⟨h'.line.trans h.line, h'.raiseCount.trans h.raiseCount⟩

theorem EntryDelivers.sameLine {e f : Entry} (h : EntryDelivers e f) : SameLine e f := by
  rw [h.1]
  exact {}

/-- A line effect leaves the raise count (R33). -/
theorem EntryTakes.raiseCount {e f : Entry} (h : EntryTakes e f) : f.raiseCount = e.raiseCount := by rw [h.1]

/-- R33 at one entry. -/
def BaselineFits (e : Entry) : Prop := e.raiseCount = none → e.line = false

theorem SameLine.baselineFits {e f : Entry} (h : SameLine e f) (he : BaselineFits e) : BaselineFits f := by
  unfold BaselineFits
  rw [h.line, h.raiseCount]
  exact he

theorem SameLine.lineGone {e f : Entry} (h : SameLine e f) (he : LineGone e) : LineGone f :=
  ⟨h.line.trans he.1, h.raiseCount.trans he.2⟩

theorem LineGone.baselineFits {e : Entry} (h : LineGone e) : BaselineFits e := fun _ => h.1

/-! ### What an event reports -/

/-- The presence states stand, and so do the line levels and raise counts of all entries but those in `own`, each of which keeps R33. -/
structure Reports (own : Set EntryIdx) (s t : State) : Prop where
  presence : ∀ p n, (t.node p n).presence = (s.node p n).presence
  baseline : ∀ i ∈ own, BaselineFits (s.entry i) → BaselineFits (t.entry i)
  others : ∀ i ∉ own, SameLine (s.entry i) (t.entry i)

section reports
variable {own : Set EntryIdx} {s t u : State} {i : EntryIdx}

theorem Reports.refl (s : State) : Reports own s s := ⟨fun _ _ => rfl, fun _ _ => id, fun _ _ => {}⟩

theorem Reports.trans (h : Reports own s t) (h' : Reports own t u) : Reports own s u :=
  ⟨fun p n => (h'.presence p n).trans (h.presence p n), fun i hi he => h'.baseline i hi (h.baseline i hi he),
    fun i hi => (h.others i hi).trans (h'.others i hi)⟩

/-- Where every line stands, nothing is reported. -/
theorem Reports.ofLines (hp : ∀ p n, (t.node p n).presence = (s.node p n).presence) (hl : ∀ i, SameLine (s.entry i) (t.entry i)) :
    Reports own s t := ⟨hp, fun i _ => (hl i).baselineFits, fun i _ => hl i⟩

/-- A state with the entries and the presence records of another: every change of lanes, ports, groups, notices, staging or sweep. -/
theorem Reports.of (he : t.entries = s.entries := by exact rfl) (hn : t.nodes = s.nodes := by exact rfl) : Reports own s t :=
  .ofLines (fun p n => by simp only [State.node, hn]) fun i => by
    simp only [State.entry, he]
    exact {}

theorem Reports.modEntry (s : State) (i : EntryIdx) (f : Entry → Entry) (hf : SameLine (s.entry i) (f (s.entry i)) := by exact {}) :
    Reports own s (s.modEntry i f) :=
  .ofLines (fun _ _ => rfl) fun j => by
    rw [entry_modEntry]
    split
    · next e => rw [e]; exact hf
    · exact {}

/-- A change of a presence record that keeps the presence state: its timer or its PROBE (R99, R101). -/
theorem Reports.modNode (s : State) (p : Port) (n : Node) (f : NodeRecord → NodeRecord)
    (hf : (f (s.node p n)).presence = (s.node p n).presence := by exact rfl) : Reports own s (s.modNode p n f) :=
  .ofLines (t := s.modNode p n f) (fun q m => by
    rw [node_modNode]
    split
    · next e => rw [e.1, e.2]; exact hf
    · rfl) fun _ => {}

/-- Delivery reports nothing. -/
theorem Delivers.reports (h : Delivers s t) : Reports own s t := by
  obtain ⟨hf, he, -⟩ := h
  exact .ofLines (fun p n => by rw [hf]; rfl) fun i => (he i).sameLine

theorem Reports.raiseNotice (k : NoticeKind) (d : Nat) (s : State) : Reports own s (raiseNotice k d s) :=
  (Delivers.raiseNotice k d s).reports

theorem Reports.settle (c : Option LaneId) (s u : State) : Reports own u (settle c s u) := .of

theorem Reports.foldl {α : Type} {f : State → α → State} (hf : ∀ s a, Reports own s (f s a)) (l : List α) (s : State) :
    Reports own s (l.foldl f s) :=
  List.foldlRecOn l f (.refl s) fun _ hu a _ => hu.trans (hf _ a)

/-! ### The procedures of delivery -/

theorem Reports.unbind (i : EntryIdx) (s : State) : Reports own s (unbind i s) := .modEntry s i _

theorem Reports.settleRelease (i : EntryIdx) (s : State) : Reports own s (settleRelease i s) :=
  (Reports.modEntry s i _).trans (Delivers.settleRelease i s).reports

theorem Reports.releaseAll (is : List EntryIdx) (s : State) : Reports own s (releaseAll is s) :=
  (Reports.foldl (fun u i => .unbind i u) is s).trans (.foldl (fun u i => .settleRelease i u) is _)

theorem Reports.settlePending (i : EntryIdx) (n : Nat) (s : State) : Reports own s (settlePending i n s) := by
  rw [settlePending_eq]
  split
  · exact .modEntry s i _
  · exact (Reports.modEntry s i _).trans (Delivers.offer i _).reports

/-- The write of an entry record: its line and its raise count stand (R175). -/
theorem Reports.applyEntry (i : EntryIdx) (img : Image) (s : State) : Reports own s (applyEntry i img s) := by
  have hw : Reports own s (writeEntry i img s) := .modEntry s i _
  rcases (s.entry i).state.idle_or_waits_or_outstanding with hs | hs | ⟨k, v, hs⟩
  · rw [applyEntry_idle img hs]
    split
    · exact (hw.trans (.modEntry _ i _)).trans (Delivers.offer i _).reports
    · exact hw
  · rw [applyEntry_waits img hs]
    exact (hw.trans (Delivers.withdraw i _).reports).trans (.settlePending i _ _)
  · cases ht : img.trigger with
    | level => rw [applyEntry_bound_level img hs ht]; exact hw
    | edge =>
      rw [applyEntry_bound_edge img hs ht]
      exact (hw.trans (.unbind i _)).trans (.settleRelease i _)

theorem Reports.sendHead (k : LaneId) (item : Item) (rest : List Item) (s : State) : Reports own s (sendHead k item rest s) := by
  have hsent : Reports own s (sentItem k item rest s) := .ofLines (fun _ _ => rfl) fun j => by
    rw [sentItem_entry]
    split <;> exact {}
  exact (hsent.trans (Delivers.promote k _).reports).trans .of

/-! ### Lanes -/

theorem Reports.clearStaging (s : State) : Reports own s (clearStaging s) := .of

theorem Reports.lossOfManagement (k : LaneId) (s : State) : Reports own s (lossOfManagement k s) := by
  rw [lossOfManagement_eq]
  split <;> exact .of

theorem Reports.laneLoss (k : LaneId) (cause : LossCause) (s : State) : Reports own s (laneLoss k cause s) := by
  have h : ∀ c, Reports own s (laneLost k c s) := fun c =>
    ((Reports.trans .of (Delivers.lossOfWork k (lossOfLane k c s)).reports).trans (.releaseAll _ _)).trans (.lossOfManagement k _)
  rw [laneLoss_cases]
  cases cause with
  | linkLost | wakeTimeout | restarted => exact (h _).trans (.raiseNotice _ _ _)
  | closed | disabled => exact h _

theorem Reports.helloDown (k : LaneId) (limit : Byte) (s : State) : Reports own s (helloDown k limit s) := by
  unfold Machine.helloDown
  split
  · exact Reports.trans .of (Delivers.offerAll _ _).reports
  · exact .of

theorem Reports.frameWakes (k : LaneId) (s : State) : Reports own s (frameWakes k s) := by
  unfold Machine.frameWakes
  split
  · dsimp only
    split <;> exact .of
  all_goals exact .of

theorem Reports.hostFrame (k : LaneId) {take : State → State} (h : ∀ s, Reports own s (take s)) (s : State) :
    Reports own s (hostFrame k take s) := by
  unfold Machine.hostFrame
  split
  · exact (Reports.frameWakes k s).trans (h _)
  · exact .of

theorem Reports.takeRetire (k : LaneId) (v : Byte) (s : State) : Reports own s (takeRetire k v s) := by
  unfold Machine.takeRetire
  dsimp only
  split
  · exact Reports.trans .of (.raiseNotice _ _ _)
  · exact Reports.trans .of (.releaseAll _ _)

theorem Reports.takeCredit (k : LaneId) (c : Byte) (s : State) : Reports own s (takeCredit k c s) := by
  unfold Machine.takeCredit
  dsimp only
  split
  · exact .of
  · split
    · exact .of
    · exact Reports.trans .of (.raiseNotice _ _ _)

theorem Reports.takeRequest (k : LaneId) (payload : List Byte) (s : State) : Reports own s (takeRequest k payload s) := by
  unfold Machine.takeRequest
  split
  · split
    · exact .of
    · split <;> exact .of
  · exact .of

/-! ### Management, the Table Sweep and the detectors -/

/-- A service whose operation reports nothing (R147 to R149). -/
theorem Reports.serve (code : Nat) (write : Bool) {body : LaneId → List Byte → State → Reply}
    (h : ∀ k args s, Reports own s (body k args s).after) (s : State) : Reports own s (serve code write body s) := by
  rcases serve_cases code write body s with ⟨e, -⟩ | ⟨k, r, -, -, ⟨-, e⟩ | ⟨-, e⟩⟩
  · rw [e]; exact .refl s
  · rw [e]; exact .of
  · rw [e]; exact (Reports.trans (t := { s with pointer := k }) .of (h k r.args _)).trans (.of (t := answered k r _ _ _))

theorem Reports.withOperand {α : Type} (o : Option α) {body : α → State → Reply} (h : ∀ a s, Reports own s (body a s).after) (s : State) :
    Reports own s (withOperand o body s).after := by
  cases o with
  | none => exact .of
  | some a => exact h a s

theorem Reports.stage (k : LaneId) (r : StagedRecord) (s : State) : Reports own s (stage k r s).after := by
  unfold Machine.stage
  split
  · exact .of
  · split
    · exact .of
    · split <;> exact .of

theorem Reports.discardStaging (k : LaneId) (s : State) : Reports own s (discardStaging k s).after := by
  unfold Machine.discardStaging
  split
  · exact .of
  · split <;> exact .of

theorem Reports.applyCommit (s : State) : Reports own s (applyCommit s) := by
  have hgroup : ∀ (u : State) r, Reports own u (applyGroupRecord r u) := fun u r => by
    cases r <;> exact .of
  have hentry : ∀ (u : State) r, Reports own u (applyEntryRecord r u) := fun u r => by
    cases r with
    | entry i img => exact .applyEntry i img u
    | group g c => exact .of
  exact (((Reports.foldl hgroup _ s).trans (.foldl hentry _ _)).trans (Delivers.offerAll _ _).reports).trans
    (.clearStaging _)

theorem Reports.commitStaging (k : LaneId) (s : State) : Reports own s (commitStaging k s).after := by
  unfold Machine.commitStaging
  split
  · exact .of
  · split
    · exact .of
    · split
      · exact .of
      · exact .applyCommit s

theorem Reports.writeSettings (j : LaneId) (st : LaneSettings) (s : State) : Reports own s (writeSettings j st s) := by
  unfold Machine.writeSettings
  dsimp only
  split
  · split
    · exact Reports.trans .of (.laneLoss j _ _)
    · exact .of
  all_goals exact .of

theorem Reports.setLaneBody (k : LaneId) (a : LaneId × LaneSettings) (s : State) : Reports own s (setLaneBody k a s).after := by
  unfold Machine.setLaneBody
  split
  · exact .of
  · split
    · exact .of
    · exact .writeSettings a.1 a.2 s

theorem Reports.writeManager (k : LaneId) (s : State) : Reports own s (writeManager k s) := by
  unfold Machine.writeManager
  split
  · exact .of
  · dsimp only
    split <;> exact .of

theorem Reports.zeroCounters (target : CounterTarget) (s : State) : Reports own s (zeroCounters target s) := by
  cases target <;> exact .of

theorem Reports.forceRetireBody (i : EntryIdx) (s : State) : Reports own s (forceRetireBody i s).after := by
  unfold Machine.forceRetireBody
  split
  · exact .releaseAll [i] s
  · exact .of

theorem Reports.startSweepBody (s : State) : Reports own s (startSweepBody s).after := by
  unfold Machine.startSweepBody
  split <;> exact .of

theorem Reports.visitEntry (i : EntryIdx) (s : State) : Reports own s (visitEntry i s) := by
  unfold Machine.visitEntry
  split
  · exact .of
  · exact (Delivers.quarantineFound i s).reports.trans .of

theorem Reports.advanceSweep (s : State) : Reports own s (advanceSweep s) := by
  unfold Machine.advanceSweep
  dsimp only
  split
  · exact .of
  · exact Reports.trans .of (.raiseNotice _ _ _)

theorem Reports.portGain (p : Port) (s : State) : Reports own s (portGain p s) := Reports.trans .of (.raiseNotice _ _ _)

theorem Reports.detectPorts (ports : List Port) (s : State) : Reports own s (detectPorts ports s) :=
  .foldl (fun u p => by
    split
    · exact .of
    · exact .portGain p u) ports s

/-! ### The reconciliation of a frame -/

/-- A line effect on an entry whose raise count is known leaves it known, so that R33 asks nothing of the line. -/
theorem Takes.reports (h : Takes i s t) (hi : i ∈ own) (hc : (s.entry i).raiseCount ≠ none) : Reports own s t := by
  obtain ⟨hf, he, ho, -⟩ := h
  have hothers : ∀ j, j ≠ i → SameLine (s.entry j) (t.entry j) := fun j hj => (ho j hj).sameLine
  refine ⟨fun p n => by rw [hf]; rfl, fun j _ hfits => ?_, fun j hj => hothers j fun e => hj (e ▸ hi)⟩
  by_cases e : j = i
  · rw [e]
    exact fun hn => absurd (he.raiseCount ▸ hn) hc
  · exact (hothers j e).baselineFits hfits

theorem recordCount_known (i : EntryIdx) (c : RaiseCount) (s : State) : ((recordCount i c s).entry i).raiseCount ≠ none := by
  rw [recordCount_entry]
  exact nofun

theorem Reports.recordCount (hi : i ∈ own) (c : RaiseCount) (s : State) : Reports own s (recordCount i c s) where
  presence _ _ := rfl
  baseline j _ hfits := by
    by_cases e : j = i
    · rw [e]
      exact fun hn => absurd hn (recordCount_known i c s)
    · rw [Machine.recordCount, entry_modEntry_ne _ e]
      exact hfits
  others j hj := by
    rw [Machine.recordCount, entry_modEntry_ne _ (ne_of_mem_of_not_mem hi hj).symm]
    exact {}

/-- A count recorded, and then the line effects of the frame (R33). -/
theorem Reports.recordThen (hi : i ∈ own) {c : RaiseCount} (h : Takes i (Machine.recordCount i c s) t) : Reports own s t :=
  (Reports.recordCount hi c s).trans (h.reports hi (recordCount_known i c s))

theorem Reports.knownRaise (hi : i ∈ own) (p : Port) (c : RaiseCount) (diff : Nat) (s : State) : Reports own s (knownRaise p i c diff s) :=
  Reports.trans .of (.recordThen hi (.raiseEffect i diff _))

theorem Reports.knownDrop (hi : i ∈ own) (p : Port) (c : RaiseCount) (diff : Nat) (s : State) : Reports own s (knownDrop p i c diff s) := by
  cases ht : (s.entry i).workTrigger with
  | edge => rw [knownDrop_edge ht]; exact Reports.trans .of (.recordThen hi ((Takes.edgeRaise i diff _).trans (.deassert i _)))
  | level => rw [knownDrop_level ht]; exact Reports.trans .of (.recordThen hi (.deassert i _))

theorem Reports.reconcileRaise (hi : i ∈ own) (p : Port) (c : RaiseCount) (s : State) : Reports own s (reconcileRaise p i c s) := by
  unfold Machine.reconcileRaise
  split
  · exact .recordThen hi (.raiseEffect i 1 _)
  · split
    · exact .of
    · exact .knownRaise hi p c _ s

theorem Reports.reconcileDrop (hi : i ∈ own) (p : Port) (c : RaiseCount) (s : State) : Reports own s (reconcileDrop p i c s) := by
  unfold Machine.reconcileDrop
  split
  · exact .recordThen hi (.deassert i _)
  · next r hr =>
    split
    · split
      · exact (Takes.deassert i s).reports hi (by rw [hr]; nofun)
      · exact .of
    · exact .knownDrop hi p c _ s

theorem Reports.adoptPresent (hi : i ∈ own) (v : Bool) (c : RaiseCount) (s : State) : Reports own s (adoptPresent i v c s) := by
  unfold Machine.adoptPresent
  dsimp only
  split
  · split
    · exact .recordThen hi (.setLine i true _)
    · exact .recordThen hi (.levelAssert i _)
  · exact .recordCount hi c s

theorem Reports.reconcilePresent (hi : i ∈ own) (p : Port) (v : Bool) (c : RaiseCount) (s : State) :
    Reports own s (reconcilePresent p i v c s) := by
  unfold Machine.reconcilePresent
  split
  · exact .adoptPresent hi v c s
  · next r hr =>
    split
    · split
      · exact .of
      · exact (Takes.deassert i s).reports hi (by rw [hr]; nofun)
    · split
      · exact .knownRaise hi p c _ s
      · exact .knownDrop hi p c _ s

end reports

/-! ### The two laws -/

/-- R104 at one node: while it is UNKNOWN or ABSENT, its lines are gone. -/
def AbsenceFits (s : State) (p : Port) (n : Node) : Prop :=
  (s.node p n).presence = .unknown ∨ (s.node p n).presence = .absent → ∀ l, LineGone (s.entry (entryIndex p n l))

/-- R104 node by node. -/
theorem absenceSound_iff (s : State) : AbsenceSound s ↔ ∀ p n, AbsenceFits s p n :=
  forall_congr' fun _ => forall_congr' fun _ => forall_comm

theorem baselineSound_iff (s : State) : BaselineSound s ↔ ∀ i, BaselineFits (s.entry i) := Iff.rfl

/-- The two laws of the field side's records are kept. -/
structure RecordsKept (s t : State) : Prop where
  baseline : BaselineSound s → BaselineSound t
  absence : AbsenceSound s → AbsenceSound t

/-- The entries of a node's two lines. -/
def nodeLines (p : Port) (n : Node) : Set EntryIdx := Set.range (entryIndex p n)

theorem mem_nodeLines {p q : Port} {n m : Node} {l : Line} : entryIndex q m l ∈ nodeLines p n ↔ q = p ∧ m = n := by
  simp only [nodeLines, Set.mem_range, entryIndex_inj]
  exact ⟨fun ⟨_, h1, h2, _⟩ => ⟨h1.symm, h2.symm⟩, fun ⟨h1, h2⟩ => ⟨l, h1.symm, h2.symm, rfl⟩⟩

section laws
variable {s t u : State}

theorem RecordsKept.refl (s : State) : RecordsKept s s := ⟨id, id⟩

theorem RecordsKept.trans (h : RecordsKept s t) (h' : RecordsKept t u) : RecordsKept s u :=
  ⟨fun hs => h'.baseline (h.baseline hs), fun hs => h'.absence (h.absence hs)⟩

theorem Reports.baselineSound {own : Set EntryIdx} (h : Reports own s t) (hs : BaselineSound s) : BaselineSound t := by
  rw [baselineSound_iff] at hs ⊢
  intro i
  by_cases hi : i ∈ own
  · exact h.baseline i hi (hs i)
  · exact (h.others i hi).baselineFits (hs i)

/-- A node whose lines are not reported on keeps R104 with its presence state. -/
theorem Reports.absenceFits {own : Set EntryIdx} (h : Reports own s t) {p : Port} {n : Node} (hn : ∀ l, entryIndex p n l ∉ own)
    (hs : AbsenceFits s p n) : AbsenceFits t p n := by
  intro hp l
  rw [h.presence] at hp
  exact (h.others _ (hn l)).lineGone (hs hp l)

/-- An event that reports nothing keeps the laws. -/
theorem Reports.recordsKept (h : Reports ∅ s t) : RecordsKept s t where
  baseline := h.baselineSound
  absence hs := by
    rw [absenceSound_iff] at hs ⊢
    exact fun p n => h.absenceFits (fun _ => Set.notMem_empty _) (hs p n)

/-- R104 is looked at at the one node whose presence state changes, and carried over at the others. -/
theorem RecordsKept.atNode {p : Port} {n : Node} (hb : BaselineSound s → BaselineSound t) (hn : AbsenceFits t p n)
    (ho : ∀ q m, ¬ (q = p ∧ m = n) → AbsenceFits s q m → AbsenceFits t q m) : RecordsKept s t where
  baseline := hb
  absence hs := by
    rw [absenceSound_iff] at hs ⊢
    intro q m
    by_cases e : q = p ∧ m = n
    · rw [e.1, e.2]; exact hn
    · exact ho q m e (hs q m)

/-! ### Presence -/

/-- R104 asks nothing of a node that is PRESENT or DOUBTED. -/
theorem absenceFits_of_known {p : Port} {n : Node} (h : (s.node p n).presence = .present ∨ (s.node p n).presence = .doubted) :
    AbsenceFits s p n := by
  rintro (e | e) <;> simp [e] at h

/-- The presence records after a frame has been handed to the Presence Monitor (R100). -/
theorem accepted_presence (p : Port) (n : Node) (s : State) (q : Port) (m : Node) :
    ((accepted p n id s).node q m).presence = if q = p ∧ m = n then .present else (s.node q m).presence := by
  have hn : ((heardState p n s).node q m).presence = if q = p ∧ m = n then .present else (s.node q m).presence := by
    rw [heardState, node_modNode]
    split <;> rfl
  by_cases h : (s.node p n).presence = .unknown ∨ (s.node p n).presence = .absent
  · rw [accepted_arrives h, (Reports.raiseNotice (own := ∅) _ _ _).presence, hn]
  · rw [accepted_known (by cases hp : (s.node p n).presence <;> simp [hp] at h ⊢), hn]

/-- An accepted frame: its node is PRESENT before its lines are reported on (R31, R100). -/
theorem accepted_recordsKept (p : Port) (n : Node) {f : State → State} (hf : ∀ s, Reports (nodeLines p n) s (f s)) (s : State) :
    RecordsKept s (accepted p n f s) := by
  have hr := hf (accepted p n id s)
  rw [accepted_eq]
  refine .atNode (p := p) (n := n) (fun hs => hr.baselineSound fun i => ?_) (absenceFits_of_known (.inl ?_)) fun q m hqm hs => ?_
  · rw [accepted_entry]; exact hs i
  · rw [hr.presence, accepted_presence, if_pos ⟨rfl, rfl⟩]
  · refine hr.absenceFits (fun l h => hqm (mem_nodeLines.mp h)) fun hp l => ?_
    rw [accepted_presence, if_neg hqm] at hp
    rw [accepted_entry]
    exact hs hp l

/-- Node absence: the node is ABSENT and its lines are gone (R102, R103). -/
theorem nodeAbsence_recordsKept (p : Port) (n : Node) (s : State) : RecordsKept s (nodeAbsence p n s) := by
  obtain ⟨hgone, hothers⟩ := nodeAbsence_delivers p n s
  refine .atNode (p := p) (n := n) (fun hs i => ?_) (fun _ => hgone) fun q m hqm hs hp l => ?_
  · by_cases hi : ∃ l, i = entryIndex p n l
    · obtain ⟨l, rfl⟩ := hi
      exact (hgone l).baselineFits
    · exact (hothers i (not_exists.mp hi)).sameLine.baselineFits (hs i)
  · rw [nodeAbsence_node, if_neg hqm] at hp
    exact (hothers _ fun o e => hqm (mem_nodeLines.mp ⟨o, e.symm⟩)).lineGone (hs hp l)

theorem doubt_node (p : Port) (n : Node) (s : State) (q : Port) (m : Node) :
    (doubt p n s).node q m =
      if q = p ∧ m = n then { presence := .doubted, quietTimer := some (millis (s.port p).quietTime.toNat), probeWaiting := true }
      else s.node q m := by rw [doubt, modPort_node, node_modNode]

/-- The doubt of a node reports nothing of its lines (R101). -/
theorem doubt_recordsKept (p : Port) (n : Node) (s : State) : RecordsKept s (doubt p n s) := by
  refine .atNode (p := p) (n := n) id (absenceFits_of_known (.inr ?_)) fun q m hqm hs hp l => ?_
  · rw [doubt_node, if_pos ⟨rfl, rfl⟩]
  · rw [doubt_node, if_neg hqm] at hp
    exact hs hp l

/-- The loss of a port's link: the absence of its known nodes in turn (R105). -/
theorem portLoss_recordsKept (p : Port) (s : State) : RecordsKept s (portLoss p s) := by
  have habsences : ∀ ns (u : State), RecordsKept u (absences p ns u) := fun ns u =>
    List.foldlRecOn ns _ (.refl u) fun v hv n _ => hv.trans (nodeAbsence_recordsKept p n v)
  rw [portLoss_eq]
  exact ((Reports.recordsKept (.of (t := portDown p s))).trans (habsences _ _)).trans (Reports.raiseNotice _ _ _).recordsKept

/-- A reset, which leaves every line deasserted and every raise count UNKNOWN (R7, R201). -/
theorem RecordsKept.clears (h : ∀ i, LineGone (t.entry i)) : RecordsKept s t :=
  ⟨fun _ i => (h i).baselineFits, fun _ _ _ _ _ => h _⟩

theorem restartAll_recordsKept (s : State) : RecordsKept s (restartAll s) :=
  .clears fun i => by rw [restartAll_entry]; exact ⟨rfl, rfl⟩

theorem powerOn_recordsKept (ports : List Port) (lanes wakes : List LaneId) (s : State) :
    RecordsKept s (detectPorts ports (detectLanes lanes wakes { State.reset with pending := s.pending })) := by
  refine RecordsKept.trans (.clears fun i => ?_) (Reports.detectPorts ports _).recordsKept
  rw [detectLanes, mapLanes_entry, entry_with_pending, powerOn_entry]
  exact ⟨rfl, rfl⟩

/-! ### Every command, and every step -/

/-- An event whose effect keeps the laws. -/
theorem event_recordsKept {c : Option LaneId} {f : State → State} (h : RecordsKept s (f s)) : ∃ t, event c s f = .next t ∧ RecordsKept s t :=
  ⟨_, event_next c s f, h.trans (Reports.settle c s (f s)).recordsKept⟩

/-- An event that reports nothing. -/
theorem event_reports {c : Option LaneId} {f : State → State} (h : Reports ∅ s (f s)) : ∃ t, event c s f = .next t ∧ RecordsKept s t :=
  event_recordsKept h.recordsKept

/-- A frame that is received, and otherwise nothing (R27, R31). -/
theorem received_recordsKept (p : Port) (n : Node) {f : State → State} (hf : ∀ s, Reports (nodeLines p n) s (f s)) :
    ∃ t, event none s (fun s => if receives s p then accepted p n f s else s) = .next t ∧ RecordsKept s t :=
  event_recordsKept (by
    split
    · exact accepted_recordsKept p n hf s
    · exact .refl s)

/-- The service of an operation that reports nothing. -/
theorem service_reports (code : Nat) (write : Bool) {body : LaneId → List Byte → State → Reply}
    (h : ∀ k args s, Reports ∅ s (body k args s).after) (s : State) :
    ∃ t, event none s (serve code write body) = .next t ∧ RecordsKept s t := event_reports (.serve code write h s)

/-- An operation that answers from its operand and changes nothing. -/
theorem readService_reports {α : Type} (code : Nat) (o : LaneId → List Byte → Option α) (f : LaneId → α → State → List Byte) (s : State) :
    ∃ t, event none s (serve code false fun k args => withOperand (o k args) fun a s => answer (f k a s) s) = .next t ∧ RecordsKept s t :=
  service_reports code false (fun k args s => .withOperand (o k args) (fun _ _ => .of) s) s

theorem portLinkLoss_recordsKept (p : Port) (s : State) : ∃ t, execPortLinkLoss p s = .next t ∧ RecordsKept s t := by
  refine event_recordsKept ?_
  split
  · exact portLoss_recordsKept p s
  · exact .refl s

theorem portLinkGained_reports (p : Port) (s : State) : ∃ t, execPortLinkGained p s = .next t ∧ RecordsKept s t := by
  refine event_reports ?_
  split
  · exact .of
  · exact .portGain p s

theorem quietTimerExpiry_recordsKept (p : Port) (n : Node) (s : State) : ∃ t, execQuietTimerExpiry p n s = .next t ∧ RecordsKept s t := by
  refine event_recordsKept ?_
  split
  · split
    · exact doubt_recordsKept p n s
    · exact nodeAbsence_recordsKept p n s
    all_goals exact (Reports.modNode s p n _).recordsKept
  · exact .refl s

theorem probe_reports (p : Port) (s : State) : ∃ t, execProbe p s = .next t ∧ RecordsKept s t := by
  refine event_reports ?_
  split
  · exact Reports.trans .of (.modNode _ p _ _)
  · exact .of

theorem storageFault_reports (i : EntryIdx) (f : StorageFault) (s : State) : ∃ t, execStorageFault i f s = .next t ∧ RecordsKept s t := by
  cases f <;> exact event_reports (.modEntry s i _)

theorem hello_reports (k : LaneId) (limit : Byte) (s : State) : ∃ t, execHello k limit s = .next t ∧ RecordsKept s t := by
  refine event_reports ?_
  split
  · split
    · exact (Reports.laneLoss k _ s).trans (.helloDown k limit _)
    · split
      · exact .helloDown k limit s
      · exact .of
  · exact .of

theorem goodbye_reports (k : LaneId) (s : State) : ∃ t, execGoodbye k s = .next t ∧ RecordsKept s t := by
  refine event_reports ?_
  split
  · exact .laneLoss k _ s
  · exact .of

theorem parkAck_reports (k : LaneId) (w : Bool) (s : State) : ∃ t, execParkAck k w s = .next t ∧ RecordsKept s t := by
  refine event_reports ?_
  split
  · dsimp only
    split
    · exact .of
    · exact Reports.trans .of (.hostFrame k .refl _)
  · exact .of

theorem parkNak_reports (k : LaneId) (w : Bool) (s : State) : ∃ t, execParkNak k w s = .next t ∧ RecordsKept s t := by
  refine event_reports ?_
  split
  · dsimp only
    split
    · exact .of
    · exact Reports.trans .of (.hostFrame k .refl _)
  · exact .of

theorem laneFrameDiscarded_reports (k : LaneId) (bytes : List Byte) (s : State) :
    ∃ t, execLaneFrameDiscarded k bytes s = .next t ∧ RecordsKept s t := by
  unfold execLaneFrameDiscarded
  split <;> exact event_reports .of

theorem laneLinkLost_reports (k : LaneId) (s : State) : ∃ t, execLaneLinkLost k s = .next t ∧ RecordsKept s t := by
  refine event_reports ?_
  split
  · split
    · exact .laneLoss k _ s
    · exact .of
  · exact .of

theorem wakeTimerExpiry_reports (k : LaneId) (s : State) : ∃ t, execWakeTimerExpiry k s = .next t ∧ RecordsKept s t := by
  refine event_reports ?_
  split
  · exact .laneLoss k _ s
  · exact .of

theorem send_reports (k : LaneId) (s : State) : ∃ t, execSend k s = .next t ∧ RecordsKept s t := by
  refine event_reports ?_
  split
  · exact .sendHead k _ _ s
  · exact .of

theorem transmissionComplete_reports (k : LaneId) (s : State) : ∃ t, execTransmissionComplete k s = .next t ∧ RecordsKept s t := by
  refine event_reports ?_
  split
  · dsimp only
    split <;> exact .of
  · exact .of

theorem restartEvent_recordsKept (s : State) : ∃ t, execRestartEvent s = .next t ∧ RecordsKept s t := by
  refine event_recordsKept ?_
  split
  · exact restartAll_recordsKept s
  · exact .refl s

theorem refusedUnknown_reports (s : State) : ∃ t, execRefusedUnknown s = .next t ∧ RecordsKept s t := by
  refine event_reports ?_
  split
  · split <;> exact .of
  · exact .of

theorem sweepVisit_reports (s : State) : ∃ t, execSweepVisit s = .next t ∧ RecordsKept s t := by
  refine event_reports ?_
  split
  · exact (Reports.visitEntry _ s).trans (.advanceSweep _)
  · exact .of

theorem rollcall_reports (p : Port) (s : State) : ∃ t, execRollcall p s = .next t ∧ RecordsKept s t := by
  refine event_reports ?_
  split <;> exact .of

theorem portTransmissionComplete_reports (p : Port) (s : State) : ∃ t, execPortTransmissionComplete p s = .next t ∧ RecordsKept s t :=
  event_reports .of

theorem laneLinkGained_reports (k : LaneId) (s : State) : ∃ t, execLaneLinkGained k s = .next t ∧ RecordsKept s t := event_reports .of

theorem hostWakeRaised_reports (k : LaneId) (s : State) : ∃ t, execHostWakeRaised k s = .next t ∧ RecordsKept s t := event_reports .of

theorem idleTimerExpiry_reports (k : LaneId) (s : State) : ∃ t, execIdleTimerExpiry k s = .next t ∧ RecordsKept s t := event_reports .of

theorem deepTimerExpiry_reports (k : LaneId) (s : State) : ∃ t, execDeepTimerExpiry k s = .next t ∧ RecordsKept s t := event_reports .of

theorem parkReplyTimeout_reports (k : LaneId) (w : Bool) (s : State) : ∃ t, execParkReplyTimeout k w s = .next t ∧ RecordsKept s t := by
  refine event_reports ?_
  split <;> exact .of

theorem helloReplyGrant_reports (k : LaneId) (s : State) : ∃ t, execHelloReplyGrant k s = .next t ∧ RecordsKept s t := by
  refine event_reports ?_
  split <;> exact .of

theorem parkGrant_reports (k : LaneId) (s : State) : ∃ t, execParkGrant k s = .next t ∧ RecordsKept s t := by
  refine event_reports ?_
  split <;> exact .of

theorem mgmtResponseGrant_reports (k : LaneId) (s : State) : ∃ t, execMgmtResponseGrant k s = .next t ∧ RecordsKept s t := by
  refine event_reports ?_
  split <;> exact .of

theorem noticeGrant_reports (s : State) : ∃ t, execNoticeGrant s = .next t ∧ RecordsKept s t := by
  refine event_reports ?_
  split <;> exact .of

theorem fieldFrameDiscarded_reports (p : Port) (bytes : List Byte) (s : State) :
    ∃ t, execFieldFrameDiscarded p bytes s = .next t ∧ RecordsKept s t := by
  refine event_reports ?_
  split <;> exact .of

theorem powerOnReset_recordsKept (ports : List Port) (lanes wakes : List LaneId) (s : State) :
    ∃ t, execPowerOnReset ports lanes wakes s = .next t ∧ RecordsKept s t := event_recordsKept (powerOn_recordsKept ports lanes wakes s)

/-- Every command keeps the laws. -/
theorem exec_recordsKept (c : Instr) (s : State) : ∃ t, exec c s = .next t ∧ RecordsKept s t := by
  cases c with
  | raise p n l c => exact received_recordsKept p n (.reconcileRaise (Set.mem_range_self l) p c)
  | drop p n l c => exact received_recordsKept p n (.reconcileDrop (Set.mem_range_self l) p c)
  | present p n v0 c0 v1 c1 =>
    exact received_recordsKept p n fun u =>
      (Reports.reconcilePresent (Set.mem_range_self 0) p v0 c0 u).trans (.reconcilePresent (Set.mem_range_self 1) p v1 c1 _)
  | portLinkLoss p => exact portLinkLoss_recordsKept p s
  | portLinkGained p => exact portLinkGained_reports p s
  | quietTimerExpiry p n => exact quietTimerExpiry_recordsKept p n s
  | probe p => exact probe_reports p s
  | fieldFrameDiscarded p b => exact fieldFrameDiscarded_reports p b s
  | rollcall p => exact rollcall_reports p s
  | portTransmissionComplete p => exact portTransmissionComplete_reports p s
  | storageFault i f => exact storageFault_reports i f s
  | hello k m => exact hello_reports k m s
  | goodbye k => exact goodbye_reports k s
  | retire k v => exact event_reports (.hostFrame k (.takeRetire k v) s)
  | credit k c => exact event_reports (.hostFrame k (.takeCredit k c) s)
  | mgmtRequest k payload => exact event_reports (.hostFrame k (.takeRequest k payload) s)
  | ready k => exact event_reports (.hostFrame k .refl s)
  | parkAck k w => exact parkAck_reports k w s
  | parkNak k w => exact parkNak_reports k w s
  | laneFrameDiscarded k b => exact laneFrameDiscarded_reports k b s
  | laneLinkLost k => exact laneLinkLost_reports k s
  | wakeTimerExpiry k => exact wakeTimerExpiry_reports k s
  | laneLinkGained k => exact laneLinkGained_reports k s
  | hostWakeRaised k => exact hostWakeRaised_reports k s
  | idleTimerExpiry k => exact idleTimerExpiry_reports k s
  | deepTimerExpiry k => exact deepTimerExpiry_reports k s
  | parkReplyTimeout k w => exact parkReplyTimeout_reports k w s
  | helloReplyGrant k => exact helloReplyGrant_reports k s
  | parkGrant k => exact parkGrant_reports k s
  | mgmtResponseGrant k => exact mgmtResponseGrant_reports k s
  | noticeGrant => exact noticeGrant_reports s
  | send k => exact send_reports k s
  | transmissionComplete k => exact transmissionComplete_reports k s
  | restartEvent => exact restartEvent_recordsKept s
  | powerOnReset ports lanes wakes => exact powerOnReset_recordsKept ports lanes wakes s
  | sweepVisit => exact sweepVisit_reports s
  | refusedUnknown => exact refusedUnknown_reports s
  | readEntry | readGroup | readLane | readNode | readPort => exact readService_reports _ _ _ s
  | identify | readNotices | readStaging | readSweep | restart => exact service_reports _ _ (fun _ _ _ => .of) s
  | stageEntry | stageGroup => exact service_reports _ true (fun k _ => .withOperand _ (.stage k)) s
  | commit => exact service_reports _ true (fun k _ => .commitStaging k) s
  | discard => exact service_reports _ true (fun k _ => .discardStaging k) s
  | setLane => exact service_reports _ true (fun k _ => .withOperand _ (.setLaneBody k)) s
  | setPort => exact service_reports _ true (fun _ _ => .withOperand _ fun _ _ => .of) s
  | setManager => exact service_reports _ true (fun _ _ => .withOperand _ .writeManager) s
  | clearNotices => exact service_reports _ true (fun _ _ => .withOperand _ (.foldl fun _ _ => .of)) s
  | clearCounters => exact service_reports _ true (fun _ _ => .withOperand _ .zeroCounters) s
  | forceRetire => exact service_reports _ true (fun _ _ => .withOperand _ .forceRetireBody) s
  | startSweep => exact service_reports _ true (fun _ _ => .startSweepBody) s

theorem advance_presence (s : State) (p : Port) (n : Node) : ((advance s).node p n).presence = (s.node p n).presence := by
  simp only [advance, State.node, getElem_mapRows]

/-- The passing of a microsecond: quiet timers run, and no presence state changes. -/
theorem Reports.advance {own : Set EntryIdx} (s : State) : Reports own s (advance s) := .ofLines (advance_presence s) fun _ => {}

/-- Every step keeps the laws. -/
theorem step_recordsKept (h : step s = .next t) : RecordsKept s t := by
  have next : ∀ c u, exec c u = .next t → RecordsKept u t := fun c u e => by
    obtain ⟨v, hv, hk⟩ := exec_recordsKept c u
    rw [hv] at e
    cases e
    exact hk
  unfold step at h
  split at h
  · next c rest _ => exact (Reports.recordsKept (.of (s := s) (t := { s with pending := rest }))).trans (next c _ h)
  · split at h
    · next c _ => exact next c s h
    · cases h; exact (Reports.advance s).recordsKept

end laws

/-- Settles O56: a frame makes its node PRESENT before it touches the node's lines, absence clears them, a reset clears all, and nothing else
touches a presence state, a line or a raise count (R33, R104). -/
theorem absenceLawIsKept : Obligations.AbsenceLawIsKept := fun _ _ hs => ⟨(step_recordsKept hs).baseline, (step_recordsKept hs).absence⟩

end Sys2Proof.Machine

/-!
# What every event leaves of the lanes' settings, states and idle timing

The delivery procedures (R11 to R14, R57, R69, R74) touch of a lane its work and its wakes alone. Every other procedure leaves the four settings, the lanes
that are DISABLED, and the timers of the lanes that stay ACTIVE; the events that do not are SET_LANE and the power-on reset for the first two, and a HELLO, a PARK
declined and the expiries of the idle and the deep timer for the third.
-/

namespace Sys2Proof.Machine

-- One theorem is elaborated after the other: many at once need too many threads.
set_option Elab.async false

/-- A property of what becomes of one lane holds of every lane where it holds of the lane changed. -/
theorem modLane_lanes {R : Lane → Lane → Prop} (hr : ∀ l, R l l) {s : State} {k : LaneId} {f : Lane → Lane} (h : R (s.lane k) (f (s.lane k)))
    (j : LaneId) : R (s.lane j) ((s.modLane k f).lane j) := by
  rw [lane_modLane]
  split
  · next e => rw [e]; exact h
  · exact hr _

/-! ### The delivery procedures at each lane -/

/-- A lane state in which work to send changes nothing (R134). -/
def LaneState.calm : LaneState → Bool
  | .active | .waking | .down | .disabled => true
  | .parking _ | .doze | .deep => false

theorem LaneState.calm_of_not_live {st : LaneState} (h : st.live = false) : st.calm = true := by
  cases st with
  | down | disabled => rfl
  | active | parking | doze | deep | waking => cases h

theorem Lane.workToSend_of_calm {l : Lane} (h : l.state.calm = true) : l.workToSend = l := by
  unfold Lane.workToSend
  split
  · next hs => rw [hs] at h; cases h
  · next hs => rw [hs] at h; cases h
  · next hs => rw [hs] at h; cases h
  all_goals rfl

/-- What delivery does to a lane: a calm lane changes in its work alone, and a lane that is not live takes no item. -/
structure LaneWorks (l m : Lane) : Prop where
  delivers : LaneDelivers l m
  deep : m.deepTimer = l.deepTimer ∨ m.deepTimer = none
  calm : l.state.calm = true → m = { l with queue := m.queue, held := m.held, enqueueSeq := m.enqueueSeq }
  off : l.state.live = false → m.enqueueSeq = l.enqueueSeq

theorem LaneWorks.refl (l : Lane) : LaneWorks l l := ⟨.refl l, .inl rfl, fun _ => rfl, fun _ => rfl⟩

theorem LaneWorks.trans {l m n : Lane} (h : LaneWorks l m) (h' : LaneWorks m n) : LaneWorks l n where
  delivers := h.delivers.trans h'.delivers
  deep := h'.deep.elim (fun e => e ▸ h.deep) .inr
  calm hl := by
    have hm := h.calm hl
    have hc : m.state.calm = true := by rw [hm]; exact hl
    rw [h'.calm hc, hm]
  off hl := (h'.off (h.delivers.live.trans hl)).trans (h.off hl)

theorem LaneWorks.workToSend (l : Lane) : LaneWorks l l.workToSend := by
  refine ⟨.workToSend l, ?_, fun h => by rw [Lane.workToSend_of_calm h], fun _ => Lane.workToSend_enqueueSeq l⟩
  unfold Lane.workToSend Lane.wake
  cases l.state <;> simp

/-- What delivery does to the lanes. -/
def Works (s t : State) : Prop := ∀ k, LaneWorks (s.lane k) (t.lane k)

section works
variable {s t u : State}

theorem Works.refl (s : State) : Works s s := fun _ => .refl _

theorem Works.trans (h : Works s t) (h' : Works t u) : Works s u := fun k => (h k).trans (h' k)

/-- A change that touches no lane. -/
theorem Works.of (h : t.lanes = s.lanes := by exact rfl) : Works s t := fun k => by
  rw [State.lane, State.lane, h]
  exact .refl _

theorem Works.thenEntry (h : Works s t) (i : EntryIdx) (f : Entry → Entry) : Works s (t.modEntry i f) := fun k => h k

theorem Works.live (h : Works s t) (k : LaneId) : t.live k = s.live k := (h k).delivers.live

/-- A change of one lane's work that leaves its enqueue sequence, or that a live lane takes. -/
theorem Works.modLane {k : LaneId} {f : Lane → Lane}
    (hf : f (s.lane k) = { s.lane k with
      queue := (f (s.lane k)).queue, held := (f (s.lane k)).held, enqueueSeq := (f (s.lane k)).enqueueSeq } := by exact rfl)
    (ho : s.live k = false → (f (s.lane k)).enqueueSeq = (s.lane k).enqueueSeq := by exact fun _ => rfl) : Works s (s.modLane k f) :=
  modLane_lanes .refl ⟨⟨by rw [hf], .inl (by rw [hf])⟩, .inl (by rw [hf]), fun _ => hf, ho⟩

theorem Works.workToSend (k : LaneId) (s : State) : Works s (s.workToSend k) := modLane_lanes .refl (.workToSend _)

theorem Works.raiseNotice (n : NoticeKind) (d : Nat) (s : State) : Works s (raiseNotice n d s) := by
  unfold Machine.raiseNotice
  dsimp only
  split
  · exact .of
  · exact Works.trans .of (.workToSend _ _)

theorem Works.quarantineLoose (i : EntryIdx) (s : State) : Works s (quarantineLoose i s) := Works.trans .of (.raiseNotice _ _ _)

theorem Works.enqueue {k : LaneId} (hk : s.live k = true) (i : EntryIdx) : Works s (enqueue k i s) := by
  refine Works.trans (.thenEntry (.modLane rfl fun h => ?_) i _) (.workToSend k _)
  rw [hk] at h
  cases h

theorem Works.promoteFrom {k : LaneId} (hk : s.live k = true) (w : List EntryIdx) : Works s (promoteFrom k w s) := by
  induction w generalizing s with
  | nil => exact .modLane
  | cons i rest ih =>
    have h : Works s (s.modLane k fun l => { l with held := rest }) := .modLane
    unfold Machine.promoteFrom
    split
    · exact h.trans (.enqueue ((h.live k).trans hk) i)
    · have hq := h.trans (.quarantineLoose i _)
      exact hq.trans (ih ((hq.live k).trans hk))

theorem Works.promote (k : LaneId) (s : State) : Works s (promote k s) := by
  unfold Machine.promote
  split
  · next hk => exact .promoteFrom hk _
  · exact .refl s

theorem Works.withdraw (i : EntryIdx) (s : State) : Works s (withdraw i s) := by
  have h : Works s (takeOut i s) := by
    unfold takeOut
    split
    · exact .thenEntry .modLane i _
    · exact .thenEntry .modLane i _
    all_goals exact .refl s
  rcases withdraw_cases s i with e | ⟨k, -, e⟩ <;> rw [e]
  · exact h
  · exact h.trans (.promote k _)

theorem Works.place {k : LaneId} (hk : s.live k = true) (i : EntryIdx) : Works s (place k i s) := by
  unfold Machine.place
  split
  · exact .enqueue hk i
  · exact .thenEntry .modLane i _

/-- An offer touches live lanes alone: the lane chosen is eligible, and the manager lane takes a wake only while it is live (R11, R51). -/
theorem Works.offer (i : EntryIdx) (s : State) : Works s (offer i s) := by
  have ho := offer_outcome i s
  generalize Machine.offer i s = t at ho
  cases ho with
  | latches => exact .of
  | quarantines => exact .quarantineLoose i s
  | strands => exact Works.trans .of (.raiseNotice _ _ _)
  | places k hq hm hc hk => exact .place (chooseLane_live s hk) i

theorem Works.foldl {α : Type} {f : State → α → State} (hf : ∀ s a, Works s (f s a)) (l : List α) (s : State) : Works s (l.foldl f s) := by
  induction l generalizing s with
  | nil => exact .refl s
  | cons a rest ih => exact (hf s a).trans (ih _)

theorem Works.offerAll (is : List EntryIdx) (s : State) : Works s (offerAll is s) := .foldl (fun s i => .offer i s) is s

theorem Works.settleRelease (i : EntryIdx) (s : State) : Works s (settleRelease i s) := by
  unfold Machine.settleRelease
  split
  · exact Works.trans .of (.offer i _)
  · exact .of

theorem Works.releaseAll (is : List EntryIdx) (s : State) : Works s (releaseAll is s) :=
  (Works.foldl (fun _ _ => .of) is s).trans (.foldl (fun s i => .settleRelease i s) is _)

theorem Works.lossOfWork (k : LaneId) (s : State) : Works s (lossOfWork k s) :=
  .foldl (fun s i => (Works.withdraw i s).trans (.offer i _)) _ s

theorem Works.lossOfBindings (k : LaneId) (s : State) : Works s (lossOfBindings k s) := .releaseAll _ s

theorem Works.quarantineFound (i : EntryIdx) (s : State) : Works s (quarantineFound i s) := by
  refine Works.trans (t := settleFound i s) ?_ (.raiseNotice _ _ _)
  have h : Works s (Machine.setDelivery i .latched (Machine.withdraw i (s.modEntry i fun e => { e with quarantined := true }))) :=
    
    .thenEntry (Works.trans .of (.withdraw i _)) i _
  unfold settleFound
  dsimp only
  split
  · exact h
  · exact h
  all_goals exact .of

theorem Works.settlePending (i : EntryIdx) (n : Nat) (s : State) : Works s (settlePending i n s) := by
  unfold Machine.settlePending
  split
  · exact .of
  · exact Works.trans .of (.offer i _)

theorem Works.applyEntry (i : EntryIdx) (img : Image) (s : State) : Works s (applyEntry i img s) := by
  have hw : Works s (Machine.writeEntry i img s) := .of
  rcases (s.entry i).state.idle_or_waits_or_outstanding with hs | hs | ⟨k, v, hs⟩
  · rw [applyEntry_idle img hs]
    split
    · exact Works.trans .of (.offer i _)
    · exact hw
  · rw [applyEntry_waits img hs]
    exact (hw.trans (.withdraw i _)).trans (.settlePending i _ _)
  · cases ht : img.trigger with
    | level => rw [applyEntry_bound_level img hs ht]; exact hw
    | edge => rw [applyEntry_bound_edge img hs ht]; exact Works.trans .of (.settleRelease i _)

/-! ### Event intake and node presence at each lane -/

theorem Works.coalesce (i : EntryIdx) (n : Nat) (s : State) : Works s (coalesce i n s) := by
  rw [coalesce_eq]
  split
  · exact Works.trans .of (.raiseNotice _ _ _)
  · exact .of

theorem Works.edgeRaise (i : EntryIdx) (n : Nat) (s : State) : Works s (edgeRaise i n s) := by
  rcases (s.entry i).state.idle_or_waits_or_outstanding with hs | hs | ⟨k, v, hs⟩
  · rw [edgeRaise_idle hs]; exact Works.trans .of (.offer i _)
  · rw [edgeRaise_waits hs]; exact Works.trans .of (.coalesce i n _)
  · rw [edgeRaise_outstanding hs]; exact .of

theorem Works.levelAssert (i : EntryIdx) (s : State) : Works s (levelAssert i s) := by
  cases hl : (s.entry i).line with
  | true => rw [levelAssert_asserted hl]; exact .refl s
  | false =>
    by_cases hs : (s.entry i).state = .idle
    · rw [levelAssert_idle hl hs]; exact Works.trans .of (.offer i _)
    · rw [levelAssert_not_idle hl hs]; exact .of

theorem Works.deassert (i : EntryIdx) (s : State) : Works s (deassert i s) := by
  rw [deassert_eq]
  split
  · exact .refl s
  · split
    · exact .thenEntry (Works.trans .of (.withdraw i _)) i _
    · exact .of

theorem Works.raiseEffect (i : EntryIdx) (n : Nat) (s : State) : Works s (raiseEffect i n s) := by
  cases ht : (s.entry i).workTrigger with
  | edge => rw [raiseEffect_edge ht]; exact .edgeRaise i n s
  | level => rw [raiseEffect_level ht]; exact .levelAssert i s

theorem Works.knownRaise (p : Port) (i : EntryIdx) (c : RaiseCount) (diff : Nat) (s : State) : Works s (knownRaise p i c diff s) :=
  Works.trans .of (.raiseEffect i diff _)

theorem Works.knownDrop (p : Port) (i : EntryIdx) (c : RaiseCount) (diff : Nat) (s : State) : Works s (knownDrop p i c diff s) := by
  cases ht : (s.entry i).workTrigger with
  | edge => rw [knownDrop_edge ht]; exact (Works.trans .of (.edgeRaise i diff _)).trans (.deassert i _)
  | level => rw [knownDrop_level ht]; exact Works.trans .of (.deassert i _)

theorem Works.reconcileRaise (p : Port) (i : EntryIdx) (c : RaiseCount) (s : State) : Works s (reconcileRaise p i c s) := by
  unfold Machine.reconcileRaise
  split
  · exact Works.trans .of (.raiseEffect i 1 _)
  · split
    · exact .of
    · exact .knownRaise p i c _ s

theorem Works.reconcileDrop (p : Port) (i : EntryIdx) (c : RaiseCount) (s : State) : Works s (reconcileDrop p i c s) := by
  unfold Machine.reconcileDrop
  split
  · exact Works.trans .of (.deassert i _)
  · split
    · split
      · exact .deassert i s
      · exact .of
    · exact .knownDrop p i c _ s

theorem Works.adoptPresent (i : EntryIdx) (v : Bool) (c : RaiseCount) (s : State) : Works s (adoptPresent i v c s) := by
  unfold Machine.adoptPresent
  dsimp only
  split
  · split
    · exact .of
    · exact Works.trans .of (.levelAssert i _)
  · exact .of

theorem Works.reconcilePresent (p : Port) (i : EntryIdx) (v : Bool) (c : RaiseCount) (s : State) : Works s (reconcilePresent p i v c s) := by
  unfold Machine.reconcilePresent
  split
  · exact .adoptPresent i v c s
  · split
    · split
      · exact .refl s
      · exact .deassert i s
    · split
      · exact .knownRaise p i c _ s
      · exact .knownDrop p i c _ s

theorem Works.accepted (p : Port) (n : Node) {f : State → State} (hf : ∀ s, Works s (f s)) (s : State) : Works s (accepted p n f s) := by
  refine Works.trans (t := Machine.heard p n (s.modPort p fun r => { r with framesAccepted := r.framesAccepted + 1 })) ?_ (hf _)
  unfold Machine.heard
  dsimp only
  split
  · exact Works.trans .of (.raiseNotice _ _ _)
  · exact Works.trans .of (.raiseNotice _ _ _)
  all_goals exact .of

theorem Works.nodeAbsence (p : Port) (n : Node) (s : State) : Works s (nodeAbsence p n s) := by
  have h : ∀ i s, Works s (absentLine i s) := fun i s => (Works.deassert i s).thenEntry i _
  exact ((Works.trans .of (h _ _)).trans (h _ _)).trans (.raiseNotice _ _ _)

theorem Works.portLoss (p : Port) (s : State) : Works s (portLoss p s) := by
  rw [portLoss_eq]
  exact (Works.trans .of (.foldl (fun u n => .nodeAbsence p n u) _ _)).trans (.raiseNotice _ _ _)

theorem Works.portGain (p : Port) (s : State) : Works s (portGain p s) := Works.trans .of (.raiseNotice _ _ _)

theorem Works.detectPorts (ports : List Port) (s : State) : Works s (detectPorts ports s) :=
  .foldl (fun u p => by
    split
    · exact .refl u
    · exact .portGain p u) ports s

end works
end Sys2Proof.Machine

/-!
# Settings, lanes that are DISABLED and idle timing, kept by every step

R113, R115, R127 and R156 lane by lane, through the lanes' own procedures, the operations of management and every command.
-/

namespace Sys2Proof.Machine

-- One theorem is elaborated after the other: many at once need too many threads.
set_option Elab.async false

/-! ### One lane -/

/-- The settings stand, and the lane is DISABLED where it was (R113, R115). -/
structure LaneOffice (l m : Lane) : Prop where
  settings : m.settings = l.settings := by rfl
  disabled : m.state = .disabled ↔ l.state = .disabled := by exact Iff.rfl

/-- What an effect may do to the timers of R127: it starts none of them, and it leaves those of an ACTIVE lane, which stays ACTIVE or ceases to be live. -/
structure LaneTimes (l m : Lane) : Prop where
  idle : m.idleTimer = l.idleTimer ∨ m.idleTimer = none := by exact .inl rfl
  deep : m.deepTimer = l.deepTimer ∨ m.deepTimer = none := by exact .inl rfl
  active : l.state = .active → m.state = .active ∧ m.idleTimer = l.idleTimer ∧ m.deepTimer = l.deepTimer ∨ m.state.live = false := by
    exact fun h => .inl ⟨h, rfl, rfl⟩
  off : l.state.live = false → m.state.live = false := by exact id

/-- What most effects do to a lane. -/
structure LaneRuns (l m : Lane) : Prop extends LaneOffice l m, LaneTimes l m

theorem LaneOffice.trans {l m n : Lane} (h : LaneOffice l m) (h' : LaneOffice m n) : LaneOffice l n :=
  ⟨h'.settings.trans h.settings, h'.disabled.trans h.disabled⟩

theorem LaneTimes.trans {l m n : Lane} (h : LaneTimes l m) (h' : LaneTimes m n) : LaneTimes l n where
  idle := h'.idle.elim (fun e => e ▸ h.idle) .inr
  deep := h'.deep.elim (fun e => e ▸ h.deep) .inr
  active hl := by
    rcases h.active hl with ⟨hm, hi, hd⟩ | hm
    · rcases h'.active hm with ⟨hn, hi', hd'⟩ | hn
      · exact .inl ⟨hn, hi'.trans hi, hd'.trans hd⟩
      · exact .inr hn
    · exact .inr (h'.off hm)
  off hl := h'.off (h.off hl)

/-- A lane that is not live after the effect: it is enough that no timer of R127 has been started. -/
theorem LaneTimes.down {l m : Lane} (hm : m.state.live = false) (hi : m.idleTimer = l.idleTimer ∨ m.idleTimer = none)
    (hd : m.deepTimer = l.deepTimer ∨ m.deepTimer = none) : LaneTimes l m := ⟨hi, hd, fun _ => .inr hm, fun _ => hm⟩

theorem LaneRuns.refl (l : Lane) : LaneRuns l l := {}

theorem LaneRuns.trans {l m n : Lane} (h : LaneRuns l m) (h' : LaneRuns m n) : LaneRuns l n :=
  ⟨h.toLaneOffice.trans h'.toLaneOffice, h.toLaneTimes.trans h'.toLaneTimes⟩

/-- A live lane that was not ACTIVE, and is live still: the effect starts no timer of R127. -/
theorem LaneRuns.ofLive {l m : Lane} (hl : l.state.live = true) (ha : l.state ≠ .active) (hm : m.state.live = true) (hs : m.settings = l.settings := by rfl)
    (hi : m.idleTimer = l.idleTimer := by rfl) (hd : m.deepTimer = l.deepTimer ∨ m.deepTimer = none := by exact .inl rfl) : LaneRuns l m where
  settings := hs
  disabled := ⟨fun e => absurd hm (by rw [e]; nofun), fun e => absurd hl (by rw [e]; nofun)⟩
  idle := .inl hi
  deep := hd
  active e := absurd e ha
  off e := absurd hl (by rw [e]; nofun)

/-- The deliveries to a lane are such an effect. -/
theorem LaneWorks.runs {l m : Lane} (h : LaneWorks l m) : LaneRuns l m := by
  have hidle : m.idleTimer = l.idleTimer := by rw [h.delivers.1]
  have hlive := h.delivers.live
  refine ⟨⟨by rw [h.delivers.1], ?_⟩, .inl hidle, h.deep, fun hl => .inl ?_, hlive.trans⟩
  · rcases h.delivers.2 with e | ⟨e, e'⟩
    · rw [e]
    · rcases e with e | e <;> rw [e, e'] <;> exact ⟨nofun, nofun⟩
  · have hm := h.calm (by rw [hl]; rfl)
    exact ⟨by rw [hm]; exact hl, hidle, by rw [hm]⟩

/-! ### The state -/

/-- The settings and the DISABLED lanes stand. -/
def Office (s t : State) : Prop := ∀ k, LaneOffice (s.lane k) (t.lane k)

/-- No timer of R127 is started, and those of the ACTIVE lanes stand. -/
def Times (s t : State) : Prop := ∀ k, LaneTimes (s.lane k) (t.lane k)

/-- What most effects do to the lanes. -/
def Runs (s t : State) : Prop := ∀ k, LaneRuns (s.lane k) (t.lane k)

section runs
variable {s t u : State}

theorem Runs.office (h : Runs s t) : Office s t := fun k => (h k).toLaneOffice

theorem Runs.times (h : Runs s t) : Times s t := fun k => (h k).toLaneTimes

theorem Office.trans (h : Office s t) (h' : Office t u) : Office s u := fun k => (h k).trans (h' k)

theorem Times.trans (h : Times s t) (h' : Times t u) : Times s u := fun k => (h k).trans (h' k)

theorem Works.runs (h : Works s t) : Runs s t := fun k => (h k).runs

theorem Runs.refl (s : State) : Runs s s := fun _ => .refl _

theorem Runs.trans (h : Runs s t) (h' : Runs t u) : Runs s u := fun k => (h k).trans (h' k)

theorem Runs.of (h : t.lanes = s.lanes := by exact rfl) : Runs s t := (Works.of h).runs

theorem Runs.raiseNotice (n : NoticeKind) (d : Nat) (s : State) : Runs s (raiseNotice n d s) := (Works.raiseNotice n d s).runs

/-- A change of one lane. -/
theorem Runs.ofLane {k : LaneId} {f : Lane → Lane} (h : LaneRuns (s.lane k) (f (s.lane k))) : Runs s (s.modLane k f) := modLane_lanes .refl h

theorem Runs.modLane (s : State) (k : LaneId) (f : Lane → Lane) (h : ∀ l, LaneRuns l (f l) := by exact fun _ => {}) : Runs s (s.modLane k f) :=
  .ofLane (h _)

theorem Runs.mapLanes (s : State) (f : LaneId → Lane → Lane) (h : ∀ k l, LaneRuns l (f k l) := by exact fun _ _ => {}) : Runs s (s.mapLanes f) :=
  fun k => by rw [lane_mapLanes]; exact h k _

theorem Runs.foldl {α : Type} {f : State → α → State} (hf : ∀ s a, Runs s (f s a)) (l : List α) (s : State) : Runs s (l.foldl f s) := by
  induction l generalizing s with
  | nil => exact .refl s
  | cons a rest ih => exact (hf s a).trans (ih _)

/-- The end of an event leaves the settings and the lane states. -/
theorem Office.settle (x : Option LaneId) (s u : State) : Office u (settle x s u) := fun k => by
  rw [settle_lane]
  exact ⟨settleIdle_settings .., by rw [settleIdle_state]⟩

/-! ### Lane loss and bring-up -/

/-- A lane lost for a cause other than DISABLED was live and is DOWN (R123). -/
theorem Runs.lossOfLane {k : LaneId} {cause : LossCause} (hc : cause ≠ .disabled) (hl : s.live k = true) : Runs s (Machine.lossOfLane k cause s) := by
  refine .ofLane ⟨⟨rfl, ?_⟩, .inr rfl, .inr rfl, fun _ => .inr ?_, fun _ => ?_⟩
  · rw [if_neg hc]
    exact ⟨nofun, fun e => by rw [State.live, e] at hl; cases hl⟩
  all_goals rw [if_neg hc]; rfl

theorem Times.lossOfLane (k : LaneId) (cause : LossCause) (s : State) : Times s (Machine.lossOfLane k cause s) := by
  refine modLane_lanes (fun l => (LaneRuns.refl l).toLaneTimes) (.down ?_ (.inr rfl) (.inr rfl))
  dsimp only
  split <;> rfl

theorem Runs.clearStaging (s : State) : Runs s (clearStaging s) := (Runs.mapLanes s fun _ l => { l with readPos := 0 }).trans .of

theorem Runs.lossOfManagement (k : LaneId) (s : State) : Runs s (lossOfManagement k s) := by
  have h : Runs s (s.modLane k fun l => { l with control := [], slot := none, readPos := 0 }) := .modLane s k _
  rw [lossOfManagement_eq]
  split
  · exact (h.trans .of).trans (.clearStaging _)
  · exact h.trans .of

/-- The parts of a lane loss after the first. -/
theorem Runs.lossOfRest (k : LaneId) (cause : LossCause) (s : State) : Runs (Machine.lossOfLane k cause s) (Machine.laneLoss k cause s) := by
  have h : Runs (Machine.lossOfLane k cause s) (laneLost k cause s) :=
    ((Works.lossOfWork k _).trans (.lossOfBindings k _)).runs.trans (.lossOfManagement k _)
  rw [laneLoss_cases]
  cases cause with
  | linkLost | wakeTimeout | restarted => exact h.trans (.raiseNotice _ _ _)
  | closed | disabled => exact h

theorem Runs.laneLoss {k : LaneId} {cause : LossCause} (hc : cause ≠ .disabled) (hl : s.live k = true) : Runs s (laneLoss k cause s) :=
  (Runs.lossOfLane hc hl).trans (.lossOfRest k cause s)

theorem Times.laneLoss (k : LaneId) (cause : LossCause) (s : State) : Times s (laneLoss k cause s) :=
  (Times.lossOfLane k cause s).trans (Runs.lossOfRest k cause s).times

theorem laneLoss_state (k : LaneId) (cause : LossCause) (s : State) :
    ((laneLoss k cause s).lane k).state.live = false ∧ (((laneLoss k cause s).lane k).state = .disabled ↔ cause = .disabled) := by
  have h := Runs.lossOfRest k cause s k
  refine ⟨h.off (lossOfLane_not_live k cause s), h.disabled.trans ?_⟩
  rw [lossOfLane, lane_modLane_same]
  dsimp only
  split <;> simp_all

/-- The lane as bring-up leaves it, before the stranded entries are offered (R119, R75). -/
def broughtUp (k : LaneId) (limit : Byte) (s : State) : State :=
  s.modLane k fun l =>
    { l with state := .active, helloReply := some .ack, creditLimit := some limit.toNat, availableCredit := limit.toNat }

theorem helloDown_eq (k : LaneId) (limit : Byte) (s : State) :
    helloDown k limit s =
      if 1 ≤ limit.toNat ∧ limit.toNat ≤ 64 then offerAll (strandedNaming k s) (broughtUp k limit s)
      else s.modLane k fun l => { l with helloReply := some (.nak limit) } := by
  split
  · next h => exact helloDown_valid h.1 h.2
  · exact helloDown_invalid (by omega)

/-- A HELLO on a DOWN lane leaves every other lane's timers, starts none on its own, and disables none (R119). -/
structure HelloRuns (k : LaneId) (s t : State) : Prop where
  office : Office s t
  others : ∀ j, j ≠ k → LaneRuns (s.lane j) (t.lane j)
  idle : (t.lane k).idleTimer = (s.lane k).idleTimer ∨ (t.lane k).idleTimer = none
  deep : (t.lane k).deepTimer = (s.lane k).deepTimer ∨ (t.lane k).deepTimer = none

theorem Runs.hello (h : Runs s t) (k : LaneId) : HelloRuns k s t := ⟨h.office, fun j _ => h j, (h k).idle, (h k).deep⟩

theorem Runs.thenHello {k : LaneId} (h : Runs s t) (h' : HelloRuns k t u) : HelloRuns k s u where
  office := h.office.trans h'.office
  others j hj := (h j).trans (h'.others j hj)
  idle := h'.idle.elim (fun e => e ▸ (h k).idle) .inr
  deep := h'.deep.elim (fun e => e ▸ (h k).deep) .inr

theorem HelloRuns.thenRuns {k : LaneId} (h : HelloRuns k s t) (h' : Runs t u) : HelloRuns k s u where
  office := h.office.trans h'.office
  others j hj := (h.others j hj).trans (h' j)
  idle := (h' k).idle.elim (fun e => e ▸ h.idle) .inr
  deep := (h' k).deep.elim (fun e => e ▸ h.deep) .inr

theorem HelloRuns.helloDown {k : LaneId} (hs : (s.lane k).state = .down) (limit : Byte) : HelloRuns k s (helloDown k limit s) := by
  rw [helloDown_eq]
  split
  · have hup : HelloRuns k s (broughtUp k limit s) := {
      office := modLane_lanes (fun _ => {}) ⟨rfl, by rw [hs]; exact ⟨nofun, nofun⟩⟩
      others := fun j hj => by rw [broughtUp, lane_modLane_ne s hj]; exact .refl _
      idle := .inl (by rw [broughtUp, lane_modLane_same])
      deep := .inl (by rw [broughtUp, lane_modLane_same]) }
    exact hup.thenRuns (Works.offerAll _ _).runs
  · exact (Runs.modLane s k _).hello k

/-! ### The park handshake and the wakes -/

theorem LaneRuns.wake (b : Bool) (l : Lane) : LaneRuns l (l.wake b) := by
  unfold Lane.wake
  split
  · next h => exact .ofLive (by rw [h]; rfl) (by rw [h]; nofun) rfl (hd := .inr rfl)
  · next h => exact .ofLive (by rw [h]; rfl) (by rw [h]; nofun) rfl (hd := .inr rfl)
  · exact {}

theorem LaneRuns.wakeOnEntry (p w : Bool) (l : Lane) : LaneRuns l (wakeOnEntry p w l) := by
  unfold Machine.wakeOnEntry
  split
  · exact .wake true l
  · split
    · exact .wake false l
    · exact {}

theorem LaneRuns.hostWakes (l : Lane) : LaneRuns l l.hostWakes := by
  unfold Lane.hostWakes
  split
  · exact {}
  · exact .wake false l
  · exact .wake false l
  all_goals exact {}

theorem LaneRuns.deepParkIfDue (due : Bool) (l : Lane) : LaneRuns l (deepParkIfDue due l) := by
  unfold Machine.deepParkIfDue
  split
  · next h => exact .ofLive (by rw [h.2]; rfl) (by rw [h.2]; nofun) rfl
  · exact {}

/-- A PARK is granted on a PARKING lane alone (R128). -/
theorem parking_of_granted {l : Lane} {d : Depth} (h : l.parkGranted = some d) : l.state = .parking d := by
  unfold Lane.parkGranted at h
  split at h
  · next hs _ => rw [hs, Option.some.inj h]
  · cases h

theorem LaneRuns.parkAccepted {d : Depth} (w : Bool) {l : Lane} (h : l.state = .parking d) : LaneRuns l (parkAccepted d w l) := by
  refine LaneRuns.trans ?_ ((LaneRuns.wakeOnEntry _ w _).trans (.deepParkIfDue _ _))
  cases d with
  | doze => exact .ofLive (by rw [h]; rfl) (by rw [h]; nofun) rfl
  | deep => exact .ofLive (by rw [h]; rfl) (by rw [h]; nofun) rfl (hd := .inr rfl)

/-- A deep PARK declined starts the deep timer, and leaves the lane in DOZE or WAKING (R129). -/
theorem parkDeclined_deep (w : Bool) {l : Lane} (h : l.state = .parking .deep) :
    LaneOffice l (parkDeclined .deep w l) ∧ (parkDeclined .deep w l).idleTimer = l.idleTimer ∧ (parkDeclined .deep w l).state ≠ .active := by
  unfold parkDeclined wakeOnEntry Lane.wake
  cases hp : l.wakePending <;> cases w <;> exact ⟨⟨rfl, by rw [h]; exact ⟨nofun, nofun⟩⟩, rfl, nofun⟩

theorem LaneRuns.parkDeclined_doze (w : Bool) {l : Lane} (h : l.state = .parking .doze) : LaneRuns l (parkDeclined .doze w l) :=
  .ofLive (by rw [h]; rfl) (by rw [h]; nofun) rfl (hd := .inr rfl)

theorem Runs.count (s : State) (k : LaneId) (f : LaneCounters → LaneCounters) : Runs s (s.count k f) := .modLane s k _

theorem Runs.frameWakes (k : LaneId) (s : State) : Runs s (frameWakes k s) := by
  unfold Machine.frameWakes
  split
  · next h =>
    have hp : Runs s (s.modLane k fun l =>
        { l with state := .active, parkReplyTimer := none, deepTimer := none, wakePending := false, deepParkDue := false }) :=
      .ofLane (.ofLive (by rw [h]; rfl) (by rw [h]; nofun) rfl (hd := .inr rfl))
    dsimp only
    split
    · exact hp.trans (.count _ k _)
    · exact hp
  · next h => exact .ofLane (.ofLive (by rw [h]; rfl) (by rw [h]; nofun) rfl (hd := .inr rfl))
  · next h => exact .ofLane (.ofLive (by rw [h]; rfl) (by rw [h]; nofun) rfl (hd := .inr rfl))
  · next h => exact .ofLane (.ofLive (by rw [h]; rfl) (by rw [h]; nofun) rfl)
  all_goals exact .refl s

theorem Runs.hostFrame (k : LaneId) {take : State → State} (h : ∀ s, Runs s (take s)) (s : State) : Runs s (hostFrame k take s) := by
  unfold Machine.hostFrame
  split
  · exact (Runs.frameWakes k s).trans (h _)
  · exact .refl s

theorem Runs.takeRetire (k : LaneId) (v : Byte) (s : State) : Runs s (takeRetire k v s) := by
  unfold Machine.takeRetire
  dsimp only
  split
  · exact ((Runs.count s k _).trans (.count _ k _)).trans (.raiseNotice _ _ _)
  · exact (Runs.count s k _).trans (Works.releaseAll _ _).runs

theorem Runs.takeCredit (k : LaneId) (c : Byte) (s : State) : Runs s (takeCredit k c s) := by
  unfold Machine.takeCredit
  dsimp only
  split
  · exact .refl s
  · split
    · exact .modLane s k fun l => { l with availableCredit := (s.lane k).availableCredit + c.toNat }
    · exact ((Runs.modLane s k fun l => { l with availableCredit := (s.lane k).creditLimit.getD 0 }).trans (.count _ k _)).trans
        (.raiseNotice _ _ _)

theorem Runs.queueControl (k : LaneId) (r : Response) (s : State) : Runs s (queueControl k r s) :=
  (Runs.modLane s k fun l => { l with control := l.control ++ [r] }).trans (Works.workToSend k _).runs

theorem Runs.takeRequest (k : LaneId) (payload : List Byte) (s : State) : Runs s (takeRequest k payload s) := by
  unfold Machine.takeRequest
  split
  · next tag op args =>
    split
    · exact .count s k _
    · split
      · exact .queueControl k _ s
      · exact .modLane s k fun l => { l with slot := some { tag := tag, op := op, args := args } }
  · exact .count s k _

theorem Runs.sendHead (k : LaneId) (item : Item) (rest : List Item) (s : State) : Runs s (sendHead k item rest s) := by
  have h : Runs s (sentItem k item rest s) :=
    Runs.trans (t := s.modLane k fun l => { l with availableCredit := l.availableCredit - 1, queue := rest })
      (.modLane s k _) (Runs.trans .of (.count _ k _))
  rw [sendHead_eq]
  exact (h.trans (Works.promote k _).runs).trans (.modLane _ k _)

/-! ### The operations of management -/

theorem Runs.answered (k : LaneId) (r : Request) (o : MgmtOutcome) (d : List Byte) (s : State) : Runs s (answered k r o d s) :=
  .ofLane (LaneRuns.trans {} (LaneWorks.workToSend _).runs)

/-- A service keeps what its operation keeps, and what the move of the pointer and the answer keep (R147 to R149). -/
theorem serve_keeps {R : State → State → Prop} (hr : ∀ {s t}, Runs s t → R s t) (ht : ∀ {s t u}, R s t → R t u → R s u) (code : Nat) (write : Bool)
    {body : LaneId → List Byte → State → Reply} (h : ∀ k args s, R s (body k args s).after) (s : State) : R s (serve code write body s) := by
  rcases serve_cases code write body s with ⟨e, -⟩ | ⟨k, r, -, -, ⟨-, e⟩ | ⟨-, e⟩⟩ <;> rw [e]
  · exact hr (.refl s)
  · exact hr (Runs.trans .of (.answered k r _ _ _))
  · exact ht (ht (hr .of) (h k r.args _)) (hr (.answered k r _ _ _))

theorem Runs.withOperand {α : Type} (o : Option α) {body : α → State → Reply} (h : ∀ a s, Runs s (body a s).after) (s : State) :
    Runs s (withOperand o body s).after := by
  cases o with
  | none => exact .refl s
  | some a => exact h a s

theorem Runs.stage (k : LaneId) (r : StagedRecord) (s : State) : Runs s (stage k r s).after := by
  have h : Runs s (rewindReaders s) := .mapLanes s _
  unfold Machine.stage
  split
  · exact .refl s
  · split
    · exact h.trans .of
    · split
      · exact .refl s
      · exact h.trans .of

theorem Runs.discardStaging (k : LaneId) (s : State) : Runs s (discardStaging k s).after := by
  unfold Machine.discardStaging
  split
  · exact .refl s
  · split
    · exact .refl s
    · exact .clearStaging s

theorem Runs.applyCommit (s : State) : Runs s (applyCommit s) := by
  have hentries : Works (groupsApplied s.staging s) (entriesApplied s.staging (groupsApplied s.staging s)) :=
    .foldl (fun u r => by
      cases r with
      | entry i img => exact .applyEntry i img u
      | group g c => exact .refl u) _ _
  have hgroups : Works s (groupsApplied s.staging s) := .of (by rw [groupsApplied_frame])
  rw [applyCommit_eq]
  exact ((hgroups.trans hentries).trans (.offerAll _ _)).runs.trans (.clearStaging _)

theorem Runs.commitStaging (k : LaneId) (s : State) : Runs s (commitStaging k s).after := by
  unfold Machine.commitStaging
  split
  · exact .refl s
  · split
    · exact .refl s
    · split
      · exact .refl s
      · exact .applyCommit s

theorem Runs.writeManager (k : LaneId) (s : State) : Runs s (writeManager k s) := by
  unfold Machine.writeManager
  dsimp only
  split
  · exact .refl s
  · split
    · exact Runs.trans .of (Works.workToSend k _).runs
    · exact .of

theorem Runs.zeroCounters (target : CounterTarget) (s : State) : Runs s (zeroCounters target s) := by
  cases target with
  | lane k => exact .modLane s k fun l => { l with counters := .zero }
  | port p => exact .of

theorem Runs.forceRetireBody (i : EntryIdx) (s : State) : Runs s (forceRetireBody i s).after := by
  unfold Machine.forceRetireBody
  split
  · exact (Works.trans .of (.settleRelease i _)).runs
  · exact .refl s

theorem Runs.startSweepBody (s : State) : Runs s (startSweepBody s).after := by
  unfold Machine.startSweepBody
  split <;> exact .of

/-! ### The Table Sweep and the resets -/

theorem Runs.visitEntry (i : EntryIdx) (s : State) : Runs s (visitEntry i s) := by
  unfold Machine.visitEntry
  split
  · exact .refl s
  · exact (Works.quarantineFound i s).runs.trans .of

theorem Runs.advanceSweep (s : State) : Runs s (advanceSweep s) := by
  unfold Machine.advanceSweep
  dsimp only
  split
  · exact .of
  · exact Runs.trans .of (.raiseNotice _ _ _)

/-- The restart event leaves a lane DOWN or DISABLED, with its settings (R163). -/
theorem Runs.restartAll (s : State) : Runs s (restartAll s) := fun k => by
  rw [restartAll_lane]
  have hstate := restartLane_state (s.lane k)
  have hlive : (restartLane (s.lane k)).state.live = false := by rw [hstate]; split <;> rfl
  refine ⟨⟨rfl, ?_⟩, .down hlive (.inr rfl) (.inr rfl)⟩
  rw [hstate]
  split <;> simp_all

end runs
end Sys2Proof.Machine

/-!
# The idle timing at the end of every event, and a lane that manages

Every command by what it leaves of the timers of R127, and of the laws R113 and R156.
-/

namespace Sys2Proof.Machine

-- One theorem is elaborated after the other: many at once need too many threads.
set_option Elab.async false

/-! ### The two laws of the settings -/

/-- R113 and R156 are kept. -/
structure LawsStand (s t : State) : Prop where
  enabled : EnabledSound s → EnabledSound t
  manager : ManagerKept s → ManagerKept t

section laws
variable {s t u : State}

theorem LawsStand.trans (h : LawsStand s t) (h' : LawsStand t u) : LawsStand s u :=
  ⟨fun hs => h'.enabled (h.enabled hs), fun hs => h'.manager (h.manager hs)⟩

theorem Office.stand (h : Office s t) : LawsStand s t where
  enabled hs k := by rw [(h k).disabled, (h k).settings]; exact hs k
  manager hs := by
    obtain ⟨k, hk⟩ := hs
    exact ⟨k, by rw [(h k).settings]; exact hk⟩

/-! ### SET_LANE -/

/-- A lane loss leaves every lane's settings, and disables no other lane. -/
theorem laneLoss_office (k : LaneId) (cause : LossCause) (s : State) (j : LaneId) :
    ((laneLoss k cause s).lane j).settings = (s.lane j).settings ∧
    (j ≠ k → (((laneLoss k cause s).lane j).state = .disabled ↔ (s.lane j).state = .disabled)) := by
  have h := (Runs.lossOfRest k cause s j).toLaneOffice
  rw [h.settings, h.disabled, lossOfLane, lane_modLane]
  split
  · next e => rw [e]; exact ⟨rfl, absurd rfl⟩
  · exact ⟨rfl, fun _ => Iff.rfl⟩

/-- The settings are written on lane `j` alone, and a lane is DISABLED exactly while its enabled setting is no (R113, R116, R157). -/
theorem writeSettings_office (he : EnabledSound s) (j : LaneId) (st : LaneSettings) (m : LaneId) :
    (((writeSettings j st s).lane m).state = .disabled ↔ ((writeSettings j st s).lane m).settings.enabled = false) := by
  have hm := he m
  have hj := he j
  unfold writeSettings
  dsimp only
  by_cases e : m = j
  · subst e
    split
    · next h1 h2 =>
      split
      · have hs := (laneLoss_office m .disabled (s.modLane m fun l => { l with settings := st }) m).1
        rw [hs, (laneLoss_state m .disabled _).2]
        simp [h2]
      · simp [h2]
    · next h1 h2 =>
      simp only [lane_modLane_same, h2, Bool.true_eq_false, iff_false]
      split
      · nofun
      · assumption
    · next h1 h2 => simp [h1, h2] at hm ⊢; exact hm
    · next h1 h2 => simp [h1, h2] at hm ⊢; exact hm
  · split
    · split
      · obtain ⟨hs, hd⟩ := laneLoss_office j .disabled (s.modLane j fun l => { l with settings := st }) m
        rw [hs, hd e, lane_modLane_ne s e]
        exact hm
      · rw [lane_modLane_ne _ e, lane_modLane_ne s e]
        exact hm
    · rw [lane_modLane_ne _ e, lane_modLane_ne s e]
      exact hm
    all_goals rw [lane_modLane_ne s e]; exact hm

theorem writeSettings_settings (j : LaneId) (st : LaneSettings) (s : State) (m : LaneId) :
    ((writeSettings j st s).lane m).settings = if m = j then st else (s.lane m).settings := by
  have h : ((s.modLane j fun l => { l with settings := st }).lane m).settings = if m = j then st else (s.lane m).settings := by
    rw [lane_modLane]
    split <;> rfl
  rw [← h]
  unfold writeSettings
  dsimp only
  split
  · split
    · exact (laneLoss_office j .disabled _ m).1
    · exact modLane_lanes (R := fun l m => m.settings = l.settings) (fun _ => rfl) rfl m
  · exact modLane_lanes (R := fun l m => m.settings = l.settings) (fun _ => rfl) rfl m
  all_goals rfl

theorem keepsManager_iff (s : State) (j : LaneId) (st : LaneSettings) :
    keepsManager s j st = true ↔
      ∃ m, (if m = j then st else (s.lane m).settings).enabled = true ∧ (if m = j then st else (s.lane m).settings).rights = .full := by
  simp [keepsManager, LaneSettings.manages]

/-- SET_LANE keeps a manager, for it looks for one first (R156). -/
theorem LawsStand.setLaneBody (k : LaneId) (a : LaneId × LaneSettings) (s : State) : LawsStand s (setLaneBody k a s).after := by
  unfold Machine.setLaneBody
  split
  · exact (Runs.refl s).office.stand
  · split
    · exact (Runs.refl s).office.stand
    · next hk =>
      obtain ⟨m, hm⟩ := (keepsManager_iff s a.1 a.2).mp (by simpa using hk)
      exact ⟨fun he m => writeSettings_office he a.1 a.2 m, fun _ => ⟨m, by rw [answer, writeSettings_settings]; exact hm⟩⟩

theorem Times.writeSettings (j : LaneId) (st : LaneSettings) (s : State) : Times s (writeSettings j st s) := by
  have h : Times s (s.modLane j fun l => { l with settings := st }) := modLane_lanes (fun _ => {}) {}
  have hdown : ∀ f : Lane → Lane, (∀ l, (f l).idleTimer = l.idleTimer ∧ (f l).deepTimer = l.deepTimer) →
      ((f (s.lane j)).state.live = false ∨ (f (s.lane j)).state = (s.lane j).state) → Times s (s.modLane j f) := fun f hf hs => by
    refine modLane_lanes (fun _ => {}) ?_
    obtain ⟨hi, hd⟩ := hf (s.lane j)
    rcases hs with hs | hs
    · exact .down hs (.inl hi) (.inl hd)
    · exact ⟨.inl hi, .inl hd, fun e => .inl ⟨hs.trans e, hi, hd⟩, fun e => by rw [hs]; exact e⟩
  unfold Machine.writeSettings
  dsimp only
  split
  · split
    · exact h.trans (.laneLoss j .disabled _)
    · rw [modLane_modLane]
      exact hdown _ (fun _ => ⟨rfl, rfl⟩) (.inl rfl)
  · rw [modLane_modLane]
    refine hdown _ (fun _ => ⟨rfl, rfl⟩) ?_
    dsimp only
    split
    · exact .inl rfl
    · exact .inr rfl
  · exact h
  · exact h

theorem Times.setLaneBody (k : LaneId) (a : LaneId × LaneSettings) (s : State) : Times s (setLaneBody k a s).after := by
  unfold Machine.setLaneBody
  split
  · exact (Runs.refl s).times
  · split
    · exact (Runs.refl s).times
    · exact .writeSettings a.1 a.2 s

/-! ### The power-on reset -/

theorem detectLanes_lane (lanes wakes : List LaneId) (s : State) (k : LaneId) :
    (detectLanes lanes wakes { State.reset with pending := s.pending }).lane k =
      { Lane.powerOn k with link := decide (k ∈ lanes), hostWake := decide (k ∈ wakes) } := by
  rw [detectLanes, lane_mapLanes, lane_with_pending, powerOn_lane]

theorem Times.powerOn (ports : List Port) (lanes wakes : List LaneId) (s : State) :
    Times s (detectPorts ports (detectLanes lanes wakes { State.reset with pending := s.pending })) := by
  refine Times.trans (fun k => ?_) (Works.detectPorts ports _).runs.times
  rw [detectLanes_lane]
  exact .down rfl (.inr rfl) (.inr rfl)

/-- Every lane is DOWN and enabled, and lane 0 has FULL rights (R115, R201). -/
theorem LawsStand.powerOn (ports : List Port) (lanes wakes : List LaneId) (s : State) :
    LawsStand s (detectPorts ports (detectLanes lanes wakes { State.reset with pending := s.pending })) := by
  refine LawsStand.trans ⟨fun _ k => ?_, fun _ => ⟨0, ?_⟩⟩ (Works.detectPorts ports _).runs.office.stand
  · rw [detectLanes_lane]
    exact ⟨nofun, nofun⟩
  · rw [detectLanes_lane]
    exact ⟨rfl, rfl⟩

/-! ### An event -/

/-- `x` is the lane on which the command crosses, if any: its arrival, while the link is present (R117, R118, R197). -/
def Crosses (c : Instr) (s : State) (x : Option LaneId) : Prop :=
  ∀ k, (x = some k → laneArrival c = some k ∧ (s.lane k).link = true) ∧
    (laneArrival c = some k → (s.lane k).link = true → wellFormed c = true → x = some k)

/-- What the effect of command `c` does to the timers of R127 on lane `k`, before the end of the event: it starts none that an ACTIVE lane could keep,
and on a lane that is ACTIVE before and after it, and not crossed, it stops none but a deep timer that expires. -/
structure LaneEvent (c : Instr) (x : Option LaneId) (k : LaneId) (l m : Lane) : Prop where
  idle : m.idleTimer = l.idleTimer ∨ m.idleTimer = none
  deep : m.state = .active → m.deepTimer = l.deepTimer ∨ m.deepTimer = none
  kept : x ≠ some k → l.state = .active → m.state = .active →
    m.idleTimer = l.idleTimer ∧ m.deepTimer = if c = .deepTimerExpiry k then none else l.deepTimer

/-- The outcome of command `c`: an effect that the laws stand, and the idle timing after it. -/
def Fits (c : Instr) (s : State) (o : Host.Outcome State Fault Refusal) : Prop :=
  ∃ x u, o = .next (settle x s u) ∧ Crosses c s x ∧ (∀ k, LaneEvent c x k (s.lane k) (u.lane k)) ∧ LawsStand s u

section fits
variable {c : Instr} {f : State → State} {k : LaneId}

theorem Crosses.none (h : laneArrival c = none) : Crosses c s none := fun k => ⟨nofun, fun h' => by rw [h] at h'; cases h'⟩

theorem Crosses.received (h : laneArrival c = some k) : Crosses c s (received k s) := by
  intro j
  unfold Machine.received
  rw [h]
  split
  · next hl =>
    refine ⟨fun e => ?_, fun e _ _ => e⟩
    cases e
    exact ⟨rfl, hl⟩
  · next hl =>
    refine ⟨nofun, fun e hl' => ?_⟩
    cases e
    exact absurd hl' hl

theorem LaneTimes.event {l m : Lane} (h : LaneTimes l m) (hc : ∀ j, c ≠ .deepTimerExpiry j) (x : Option LaneId) (k : LaneId) : LaneEvent c x k l m where
  idle := h.idle
  deep _ := h.deep
  kept _ hl hm := by
    rcases h.active hl with ⟨-, hi, hd⟩ | hn
    · exact ⟨hi, by rw [if_neg (hc k), hd]⟩
    · rw [hm] at hn; cases hn

theorem fits_of_times {x : Option LaneId} (hx : Crosses c s x) (hc : ∀ j, c ≠ .deepTimerExpiry j) (ht : Times s (f s)) (hl : LawsStand s (f s)) :
    Fits c s (event x s f) :=
  ⟨x, f s, rfl, hx, fun k => (ht k).event hc x k, hl⟩

/-- An event that is no frame on a lane. -/
theorem fits (h : Runs s (f s)) (hx : laneArrival c = none := by exact rfl) (hc : ∀ j, c ≠ .deepTimerExpiry j := by exact nofun) :
    Fits c s (event none s f) := fits_of_times (.none hx) hc h.times h.office.stand

/-- A frame that arrives on lane `k`. -/
theorem fits_received (h : Runs s (f s)) (hx : laneArrival c = some k := by exact rfl) (hc : ∀ j, c ≠ .deepTimerExpiry j := by exact nofun) :
    Fits c s (event (received k s) s f) := fits_of_times (.received hx) hc h.times h.office.stand

/-- The service of an operation. -/
theorem fits_service {code : Nat} {write : Bool} {body : LaneId → List Byte → State → Reply} (h : ∀ k args s, Runs s (body k args s).after)
    (hx : laneArrival c = none := by exact rfl) (hc : ∀ j, c ≠ .deepTimerExpiry j := by exact nofun) :
    Fits c s (event none s (serve code write body)) := fits (serve_keeps id .trans code write h s) hx hc

end fits

/-! ### Frames on a lane, its link and its timers -/

/-- A lane that is lost for a cause other than DISABLED is DOWN (R123). -/
theorem laneLoss_down {cause : LossCause} (hc : cause ≠ .disabled) (k : LaneId) (s : State) : ((laneLoss k cause s).lane k).state = .down := by
  obtain ⟨hl, hd⟩ := laneLoss_state k cause s
  have hd := mt hd.mp hc
  revert hl hd
  cases ((laneLoss k cause s).lane k).state <;> simp [LaneState.live]

/-- A HELLO on a live lane, a DOWN lane and a DISABLED lane (R119, R120). -/
theorem HelloRuns.hello (k : LaneId) (m : Byte) (s : State) :
    HelloRuns k s
      (if (s.lane k).link then
        if s.live k then Machine.helloDown k m (laneLoss k .restarted s) else if (s.lane k).state = .down then Machine.helloDown k m s else s
      else s) := by
  have hrefl := (Runs.refl s).hello k
  split
  · split
    · next hl => exact (Runs.laneLoss (by decide) hl).thenHello (.helloDown (laneLoss_down (by decide) k s) m)
    · split
      · next hs => exact .helloDown hs m
      · exact hrefl
  · exact hrefl

/-- On the lane of the HELLO the idle timing starts anew: the frame is a crossing (R118). -/
theorem hello_fits (k : LaneId) (m : Byte) (s : State) : Fits (.hello k m) s (execHello k m s) := by
  by_cases hl : (s.lane k).link = true
  · have h := HelloRuns.hello k m s
    refine ⟨received k s, _, rfl, .received rfl, fun j => ?_, h.office.stand⟩
    by_cases hj : j = k
    · subst hj
      exact ⟨h.idle, fun _ => h.deep, fun hx => absurd (if_pos hl) hx⟩
    · exact (h.others j hj).toLaneTimes.event (c := .hello k m) nofun _ j
  · exact fits_received (by rw [if_neg hl]; exact .refl s)

theorem goodbye_fits (k : LaneId) (s : State) : Fits (.goodbye k) s (execGoodbye k s) := by
  refine fits_received ?_
  split
  · next h => exact .laneLoss (by decide) (Bool.and_eq_true_iff.mp h).2
  · exact .refl s

/-- The level of the host wake input, as a frame of the park handshake carries it. -/
theorem Runs.hostWake (s : State) (k : LaneId) (w : Bool) : Runs s (s.modLane k fun l => { l with hostWake := w }) := .modLane s k _

theorem parkAck_fits (k : LaneId) (w : Bool) (s : State) : Fits (.parkAck k w) s (execParkAck k w s) := by
  refine fits_received ?_
  split
  · dsimp only
    split
    · next d hd =>
      refine (Runs.hostWake s k w).trans (.ofLane (.parkAccepted w ?_))
      rw [lane_modLane_same]
      exact parking_of_granted hd
    · exact (Runs.hostWake s k w).trans (.hostFrame k .refl _)
  · exact .refl s

/-- A PARK declined, as one change of its lane (R129). -/
def declined (d : Depth) (w : Bool) (l : Lane) : Lane :=
  { parkDeclined d w { l with hostWake := w } with counters := { l.counters with parksDeclined := l.counters.parksDeclined + 1 } }

theorem declined_eq (k : LaneId) (d : Depth) (w : Bool) (s : State) :
    countDeclined (s.modLane k fun l => parkDeclined d w { l with hostWake := w }) k = s.modLane k (declined d w) := by
  have hc : ∀ l : Lane, (parkDeclined d w l).counters = l.counters := fun l => by
    unfold parkDeclined wakeOnEntry Lane.wake
    cases d <;> cases hp : l.wakePending <;> cases w <;> rfl
  rw [countDeclined, State.count, modLane_modLane]
  refine modLane_congr ?_
  simp only [declined, hc]

/-- A change of one lane. -/
theorem fits_modLane {c : Instr} {x : Option LaneId} {k : LaneId} {f : Lane → Lane} (hx : Crosses c s x) (hc : ∀ j, j ≠ k → c ≠ .deepTimerExpiry j)
    (ho : LaneOffice (s.lane k) (f (s.lane k))) (he : LaneEvent c x k (s.lane k) (f (s.lane k))) : Fits c s (event x s fun s => s.modLane k f) := by
  refine ⟨x, s.modLane k f, rfl, hx, fun j => ?_, Office.stand (modLane_lanes (fun _ => {}) ho)⟩
  by_cases hj : j = k
  · rw [hj, lane_modLane_same]
    exact he
  · rw [lane_modLane_ne s hj]
    exact ⟨.inl rfl, fun _ => .inl rfl, fun _ _ _ => ⟨rfl, by rw [if_neg (hc j hj)]⟩⟩

/-- A deep PARK declined starts the deep timer on a lane that it leaves in DOZE or WAKING (R129). -/
theorem declined_fits {c : Instr} {x : Option LaneId} {k : LaneId} {d : Depth} (hx : Crosses c s x) (hc : ∀ j, c ≠ .deepTimerExpiry j)
    (hd : (s.lane k).parkGranted = some d) (w : Bool) : Fits c s (event x s fun s => s.modLane k (declined d w)) := by
  have hs : ({ s.lane k with hostWake := w } : Lane).state = .parking d := parking_of_granted hd
  refine fits_modLane hx (fun j _ => hc j) ?_ ?_
  all_goals cases d
  · have h := LaneRuns.parkDeclined_doze w hs
    exact ⟨h.settings, h.disabled⟩
  · obtain ⟨ho, -⟩ := parkDeclined_deep w hs
    exact ⟨ho.settings, ho.disabled⟩
  · have h := LaneRuns.parkDeclined_doze w hs
    exact ⟨h.idle, fun _ => h.deep, fun _ ha => by rw [parking_of_granted hd] at ha; cases ha⟩
  · obtain ⟨-, hi, ha⟩ := parkDeclined_deep w hs
    exact ⟨.inl hi, fun e => absurd e ha, fun _ _ e => absurd e ha⟩

theorem parkNak_fits (k : LaneId) (w : Bool) (s : State) : Fits (.parkNak k w) s (execParkNak k w s) := by
  by_cases hl : (s.lane k).link = true
  · cases hd : (s.lane k).parkGranted with
    | none =>
      refine fits_received ?_
      rw [if_pos hl, hd]
      exact (Runs.hostWake s k w).trans (.hostFrame k .refl _)
    | some d =>
      have h := declined_fits (c := .parkNak k w) (.received rfl) nofun hd w
      unfold execParkNak
      rw [event_next] at h ⊢
      rw [if_pos hl, hd]
      dsimp only at h ⊢
      rw [modLane_modLane, declined_eq]
      exact h
  · exact fits_received (by rw [if_neg hl]; exact .refl s)

theorem parkReplyTimeout_fits (k : LaneId) (w : Bool) (s : State) : Fits (.parkReplyTimeout k w) s (execParkReplyTimeout k w s) := by
  cases hd : (s.lane k).parkGranted with
  | none =>
    refine fits ?_
    rw [hd]
    exact .modLane s k _
  | some d =>
    have h := declined_fits (c := .parkReplyTimeout k w) (.none rfl) nofun hd w
    unfold execParkReplyTimeout
    rw [event_next] at h ⊢
    rw [hd]
    dsimp only at h ⊢
    rw [declined_eq]
    exact h

/-- A damaged frame is a crossing where it is received; a frame that its receiver takes for another is none of these (R197). -/
theorem laneFrameDiscarded_fits (k : LaneId) (bytes : List Byte) (s : State) :
    Fits (.laneFrameDiscarded k bytes) s (execLaneFrameDiscarded k bytes s) := by
  unfold execLaneFrameDiscarded
  split
  · exact fits_received (Runs.count s k _)
  · next h =>
    refine fits_of_times (fun j => ⟨nofun, fun hj hl hw => absurd ?_ h⟩) nofun (Runs.refl s).times (Runs.refl s).office.stand
    cases hj
    exact Bool.and_eq_true_iff.mpr ⟨hl, hw⟩

theorem laneLinkLost_fits (k : LaneId) (s : State) : Fits (.laneLinkLost k) s (execLaneLinkLost k s) := by
  refine fits ?_
  split
  · split
    · next hl => exact .laneLoss (by decide) hl
    · exact .modLane s k _
  · exact .refl s

theorem wakeTimerExpiry_fits (k : LaneId) (s : State) : Fits (.wakeTimerExpiry k) s (execWakeTimerExpiry k s) := by
  refine fits ?_
  split
  · next h => exact .laneLoss (by decide) (by rw [State.live, h.2]; rfl)
  · exact .modLane s k _

theorem hostWakeRaised_fits (k : LaneId) (s : State) : Fits (.hostWakeRaised k) s (execHostWakeRaised k s) := by
  refine fits (.modLane s k _ fun l => ?_)
  split
  · exact LaneRuns.trans (m := { l with hostWake := true }) {} (.hostWakes _)
  · exact {}

/-- The idle timer's expiry parks its lane (R128). -/
theorem idleTimerExpiry_fits (k : LaneId) (s : State) : Fits (.idleTimerExpiry k) s (execIdleTimerExpiry k s) := by
  refine fits_modLane (.none rfl) (fun _ _ => nofun) ?_ ?_
  all_goals split
  · next h => exact ⟨rfl, by rw [h.2]; exact ⟨nofun, nofun⟩⟩
  · exact {}
  · exact ⟨.inr rfl, fun _ => .inl rfl, fun _ _ => nofun⟩
  · next h =>
    refine ⟨.inr rfl, fun _ => .inl rfl, fun _ hl _ => ⟨?_, rfl⟩⟩
    rw [not_and'] at h
    exact (Option.not_isSome_iff_eq_none.mp (h hl)).symm

/-- The deep timer's expiry stops it (R131). -/
theorem deepTimerExpiry_fits (k : LaneId) (s : State) : Fits (.deepTimerExpiry k) s (execDeepTimerExpiry k s) := by
  refine fits_modLane (.none rfl) (fun j hj h => hj (Instr.deepTimerExpiry.inj h).symm) ?_ ?_
  all_goals split
  · next h => exact ⟨rfl, by rw [h]; exact ⟨nofun, nofun⟩⟩
  · exact {}
  · exact {}
  · exact ⟨.inl rfl, nofun, fun _ _ => nofun⟩
  · exact ⟨.inl rfl, fun _ => .inr rfl, fun _ _ _ => ⟨rfl, by rw [if_pos rfl]⟩⟩
  · exact ⟨.inl rfl, fun _ => .inr rfl, fun _ _ _ => ⟨rfl, by rw [if_pos rfl]⟩⟩

/-! ### The other events -/

theorem received_fits {c : Instr} (p : Port) (n : Node) {f : State → State} (hf : ∀ s, Works s (f s)) (hx : laneArrival c = none := by exact rfl)
    (hc : ∀ j, c ≠ .deepTimerExpiry j := by exact nofun) : Fits c s (event none s fun s => if receives s p then accepted p n f s else s) := by
  refine fits ?_ hx hc
  split
  · exact (Works.accepted p n hf s).runs
  · exact .refl s

theorem portLinkLoss_fits (p : Port) (s : State) : Fits (.portLinkLoss p) s (execPortLinkLoss p s) := by
  refine fits ?_
  split
  · exact (Works.portLoss p s).runs
  · exact .refl s

theorem portLinkGained_fits (p : Port) (s : State) : Fits (.portLinkGained p) s (execPortLinkGained p s) := by
  refine fits ?_
  split
  · exact .refl s
  · exact (Works.portGain p s).runs

theorem quietTimerExpiry_fits (p : Port) (n : Node) (s : State) : Fits (.quietTimerExpiry p n) s (execQuietTimerExpiry p n s) := by
  refine fits ?_
  split
  · split
    · exact .of
    · exact (Works.nodeAbsence p n s).runs
    all_goals exact .of
  · exact .refl s

theorem fieldFrameDiscarded_fits (p : Port) (bytes : List Byte) (s : State) :
    Fits (.fieldFrameDiscarded p bytes) s (execFieldFrameDiscarded p bytes s) := by
  refine fits ?_
  split <;> exact .of

theorem probe_fits (p : Port) (s : State) : Fits (.probe p) s (execProbe p s) := by
  refine fits ?_
  split <;> exact .of

theorem rollcall_fits (p : Port) (s : State) : Fits (.rollcall p) s (execRollcall p s) := by
  refine fits ?_
  split <;> exact .of

theorem portTransmissionComplete_fits (p : Port) (s : State) : Fits (.portTransmissionComplete p) s (execPortTransmissionComplete p s) := fits .of

theorem storageFault_fits (i : EntryIdx) (f : StorageFault) (s : State) : Fits (.storageFault i f) s (execStorageFault i f s) := fits .of

theorem laneLinkGained_fits (k : LaneId) (s : State) : Fits (.laneLinkGained k) s (execLaneLinkGained k s) := fits (.modLane s k _)

theorem helloReplyGrant_fits (k : LaneId) (s : State) : Fits (.helloReplyGrant k) s (execHelloReplyGrant k s) := by
  refine fits ?_
  split
  · exact (Runs.modLane s k fun l => { l with helloReply := none }).trans (.modLane _ k _)
  · exact .refl s

theorem parkGrant_fits (k : LaneId) (s : State) : Fits (.parkGrant k) s (execParkGrant k s) := by
  refine fits ?_
  split
  · exact (Runs.modLane s k fun l => { l with parkReplyTimer := some Config.parkReplyTime }).trans (.modLane _ k _)
  · exact .refl s

theorem mgmtResponseGrant_fits (k : LaneId) (s : State) : Fits (.mgmtResponseGrant k) s (execMgmtResponseGrant k s) := by
  refine fits ?_
  split
  · next rest _ _ => exact (Runs.modLane s k fun l => { l with control := rest }).trans (.modLane _ k _)
  · exact .refl s

theorem noticeGrant_fits (s : State) : Fits .noticeGrant s (execNoticeGrant s) := by
  refine fits ?_
  split
  · exact Runs.trans .of (.modLane _ _ _)
  · exact .refl s

theorem send_fits (k : LaneId) (s : State) : Fits (.send k) s (execSend k s) := by
  refine fits ?_
  split
  · exact .sendHead k _ _ s
  · exact .refl s

theorem transmissionComplete_fits (k : LaneId) (s : State) : Fits (.transmissionComplete k) s (execTransmissionComplete k s) := by
  have h : Runs s (s.modLane k fun l => { l with sending := none }) := .modLane s k _
  refine fits ?_
  split
  · dsimp only
    split
    · exact h.trans .of
    · exact h
  · exact .refl s

theorem restartEvent_fits (s : State) : Fits .restartEvent s (execRestartEvent s) := by
  refine fits ?_
  split
  · exact .restartAll s
  · exact .refl s

theorem powerOnReset_fits (ports : List Port) (lanes wakes : List LaneId) (s : State) :
    Fits (.powerOnReset ports lanes wakes) s (execPowerOnReset ports lanes wakes s) :=
  fits_of_times (.none rfl) nofun (.powerOn ports lanes wakes s) (.powerOn ports lanes wakes s)

theorem sweepVisit_fits (s : State) : Fits .sweepVisit s (execSweepVisit s) := by
  refine fits ?_
  split
  · exact (Runs.visitEntry _ s).trans (.advanceSweep _)
  · exact .of

theorem refusedUnknown_fits (s : State) : Fits .refusedUnknown s (execRefusedUnknown s) := by
  refine fits ?_
  split
  · split
    · exact .refl s
    · rw [respond_eq]
      exact Runs.trans .of (.answered _ _ _ _ _)
  · exact .refl s

/-- SET_LANE writes settings, and may disable a lane: the laws are those of its own checks (R155 to R157). -/
theorem setLane_fits (s : State) : Fits .setLane s (execSetLane s) := by
  have hbody : ∀ {R : State → State → Prop}, (∀ s, R s s) → (∀ k a s, R s (setLaneBody k a s).after) →
      ∀ k args s, R s (withOperand (setLaneOperand args) (setLaneBody k) s).after := fun hr h k args s => by
    cases setLaneOperand args with
    | none => exact hr s
    | some a => exact h k a s
  refine fits_of_times (.none rfl) nofun ?_ ?_
  · exact serve_keeps Runs.times .trans _ true (hbody (fun s => (Runs.refl s).times) .setLaneBody) s
  · exact serve_keeps (fun h => h.office.stand) .trans _ true (hbody (fun s => (Runs.refl s).office.stand) .setLaneBody) s

/-- Every command. -/
theorem exec_fits (c : Instr) (s : State) : Fits c s (exec c s) := by
  cases c with
  | raise p n l c => exact received_fits p n (.reconcileRaise p _ c)
  | drop p n l c => exact received_fits p n (.reconcileDrop p _ c)
  | present p n v0 c0 v1 c1 => exact received_fits p n fun u => (Works.reconcilePresent p _ v0 c0 u).trans (.reconcilePresent p _ v1 c1 _)
  | portLinkLoss p => exact portLinkLoss_fits p s
  | portLinkGained p => exact portLinkGained_fits p s
  | quietTimerExpiry p n => exact quietTimerExpiry_fits p n s
  | fieldFrameDiscarded p b => exact fieldFrameDiscarded_fits p b s
  | probe p => exact probe_fits p s
  | rollcall p => exact rollcall_fits p s
  | portTransmissionComplete p => exact portTransmissionComplete_fits p s
  | storageFault i f => exact storageFault_fits i f s
  | hello k m => exact hello_fits k m s
  | goodbye k => exact goodbye_fits k s
  | retire k v => exact fits_received (.hostFrame k (.takeRetire k v) s)
  | credit k c => exact fits_received (.hostFrame k (.takeCredit k c) s)
  | mgmtRequest k payload => exact fits_received (.hostFrame k (.takeRequest k payload) s)
  | ready k => exact fits_received (.hostFrame k .refl s)
  | parkAck k w => exact parkAck_fits k w s
  | parkNak k w => exact parkNak_fits k w s
  | laneFrameDiscarded k b => exact laneFrameDiscarded_fits k b s
  | laneLinkLost k => exact laneLinkLost_fits k s
  | laneLinkGained k => exact laneLinkGained_fits k s
  | hostWakeRaised k => exact hostWakeRaised_fits k s
  | idleTimerExpiry k => exact idleTimerExpiry_fits k s
  | deepTimerExpiry k => exact deepTimerExpiry_fits k s
  | parkReplyTimeout k w => exact parkReplyTimeout_fits k w s
  | wakeTimerExpiry k => exact wakeTimerExpiry_fits k s
  | helloReplyGrant k => exact helloReplyGrant_fits k s
  | parkGrant k => exact parkGrant_fits k s
  | mgmtResponseGrant k => exact mgmtResponseGrant_fits k s
  | noticeGrant => exact noticeGrant_fits s
  | send k => exact send_fits k s
  | transmissionComplete k => exact transmissionComplete_fits k s
  | restartEvent => exact restartEvent_fits s
  | powerOnReset ports lanes wakes => exact powerOnReset_fits ports lanes wakes s
  | sweepVisit => exact sweepVisit_fits s
  | refusedUnknown => exact refusedUnknown_fits s
  | readEntry | readGroup | readLane | readNode | readPort => exact fits_service fun _ _ => .withOperand _ fun _ _ => .refl _
  | identify | readNotices | readSweep => exact fits_service fun _ _ => .refl
  | readStaging => exact fits_service fun k _ s => .modLane s k _
  | restart => exact fits_service fun _ _ _ => .of
  | stageEntry | stageGroup => exact fits_service fun k _ => .withOperand _ (.stage k)
  | commit => exact fits_service fun k _ => .commitStaging k
  | discard => exact fits_service fun k _ => .discardStaging k
  | setLane => exact setLane_fits s
  | setPort => exact fits_service fun _ _ => .withOperand _ fun _ _ => .of
  | setManager => exact fits_service fun _ _ => .withOperand _ .writeManager
  | clearNotices => exact fits_service fun _ _ => .withOperand _ (.foldl fun _ _ => .of)
  | clearCounters => exact fits_service fun _ _ => .withOperand _ .zeroCounters
  | forceRetire => exact fits_service fun _ _ => .withOperand _ .forceRetireBody
  | startSweep => exact fits_service fun _ _ => .startSweepBody

/-! ### The manager law -/

theorem exec_stands {c : Instr} (h : exec c s = .next t) : LawsStand s t := by
  obtain ⟨x, u, hu, -, -, hl⟩ := exec_fits c s
  rw [hu] at h
  cases h
  exact hl.trans (Office.settle x s u).stand

/-- A microsecond passes for the timers alone. -/
theorem Office.advance (s : State) : Office s (advance s) := fun k => by
  have h := lane_mapLanes s (fun _ l =>
    { l with
      idleTimer := tickTimer l.idleTimer, deepTimer := tickTimer l.deepTimer
      parkReplyTimer := tickTimer l.parkReplyTimer, wakeTimer := tickTimer l.wakeTimer }) k
  rw [show (Machine.advance s).lane k = _ from h]
  exact {}

theorem step_stands (h : step s = .next t) : LawsStand s t := by
  unfold step at h
  split at h
  · next c rest _ => exact (Runs.of (s := s) (t := { s with pending := rest })).office.stand.trans (exec_stands h)
  · split at h
    · exact exec_stands h
    · cases h; exact (Office.advance s).stand

end laws

/-- Settles O50: SET_LANE looks for a manager before it writes, the power-on reset makes lane 0 one, and no other step touches a setting or leaves a
lane's enabled setting and its being DISABLED apart (R113, R156). -/
theorem managerLawIsKept : Obligations.ManagerLawIsKept := by
  intro s t he hm hs
  have h := step_stands hs
  have het := h.enabled he
  obtain ⟨k, hk, hr⟩ := h.manager hm
  exact ⟨het, ⟨k, hk, hr⟩, k, fun hd => absurd hk (by rw [(het k).mp hd]; nofun), hr⟩

end Sys2Proof.Machine

/-!
# The idle timing at the end of every event (R127)
-/

namespace Sys2Proof.Machine

-- One theorem is elaborated after the other: many at once need too many threads.
set_option Elab.async false

section idle
variable {s u : State} {k : LaneId} {x : Option LaneId}

/-- Idle is R127's. -/
theorem idle_iff (s : State) (k : LaneId) : s.idle k = true ↔
    (s.lane k).state = .active ∧ (s.lane k).queue = [] ∧ (s.lane k).held = [] ∧ (s.lane k).control = [] ∧
    (s.lane k).helloReply = none ∧ (s.lane k).sending = none ∧
    (k = s.manager → ∀ kind, (s.notice kind).isSet = false ∨ (s.notice kind).sent = true) := by
  have hn : s.noticeWaits k = false ↔ (k = s.manager → ∀ kind, (s.notice kind).isSet = false ∨ (s.notice kind).sent = true) := by
    rw [← Bool.not_eq_true, noticeWaits_iff]
    simp only [not_and, not_exists, Bool.not_eq_false, Classical.or_iff_not_imp_left]
  rw [← hn]
  simp only [State.idle, Bool.and_eq_true, decide_eq_true_eq, List.isEmpty_iff, Option.isNone_iff_eq_none, Bool.not_eq_true']
  tauto

theorem active_of_idle (h : s.idle k = true) : (s.lane k).state = .active := ((idle_iff s k).mp h).1

/-- The idle timing is no part of being idle. -/
theorem settle_idle (x : Option LaneId) (s u : State) (k : LaneId) : (settle x s u).idle k = u.idle k := by
  have hw : (settle x s u).noticeWaits k = u.noticeWaits k := rfl
  simp only [State.idle, hw, settle_lane, settleIdle_state, settleIdle_queue, settleIdle_held, settleIdle_control, settleIdle_helloReply,
    settleIdle_sending]

/-! ### One lane at the end of an event -/

theorem settle_state (x : Option LaneId) (s u : State) (k : LaneId) : ((settle x s u).lane k).state = (u.lane k).state := by
  rw [settle_lane, settleIdle_state]

theorem settle_settings (x : Option LaneId) (s u : State) (k : LaneId) : ((settle x s u).lane k).settings = (u.lane k).settings := by
  rw [settle_lane, settleIdle_settings]

theorem settled_not_active (h : (u.lane k).state ≠ .active) : (settle x s u).lane k = { u.lane k with idleTimer := none } := by
  rw [settle_lane, settleIdle_of_not_active h]

theorem settled_busy (ha : (u.lane k).state = .active) (h : u.idle k = false) :
    (settle x s u).lane k = { u.lane k with idleTimer := none, deepTimer := none } := by
  rw [settle_lane, h]
  exact if_pos ha

theorem settled_idle (h : u.idle k = true) :
    (settle x s u).lane k = if s.idle k = false ∨ x = some k then (u.lane k).startIdle else u.lane k := by
  rw [settle_lane, h, Lane.settleIdle, if_pos (active_of_idle h), if_pos rfl]
  refine if_congr ?_ rfl rfl
  simp

theorem startIdle_timers {l : Lane} (hd : l.settings.dozeAfter ≠ 0) :
    l.startIdle.idleTimer = some (l.settings.dozeAfter.toNat * 1000) ∧
    (l.settings.deepAfter ≠ 0 → l.startIdle.deepTimer = some (l.settings.deepAfter.toNat * 10 * 1000)) := by
  rw [Lane.startIdle, if_neg hd]
  exact ⟨rfl, fun h => if_neg h⟩

/-- With a setting of 0 the deep timer is not started, and with a doze-after of 0 the idle timer is not either (R127, R116). -/
theorem startIdle_zero (l : Lane) :
    (l.settings.dozeAfter = 0 → l.startIdle = l) ∧ (l.settings.deepAfter = 0 → l.startIdle.deepTimer = l.deepTimer) := by
  refine ⟨fun h => if_pos h, fun h => ?_⟩
  rw [Lane.startIdle, if_pos h]
  split <;> rfl

end idle

/-- Settles O4: an effect starts no timer of R127 and leaves those of a lane that stays ACTIVE; the end of the event then sets them by the lane's being idle. -/
theorem idleTimingAtTheEndOfEveryEvent : Obligations.IdleTimingAtTheEndOfEveryEvent := by
  intro s c k
  obtain ⟨x, u, hnext, hx, hk, -⟩ := exec_fits c s
  obtain ⟨hcrossed, hcrosses⟩ := hx k
  have hu := hk k
  refine ⟨_, hnext, fun ha => ?_, fun ha hi => ?_, fun hi hs hd => ?_, fun hi hs hc => ?_, fun hd hs => ?_, fun hi hd hs => ?_, idle_iff s k⟩
  · rw [settle_state] at ha
    rw [settled_not_active ha]
  · rw [settle_state] at ha
    rw [settle_idle] at hi
    rw [settled_busy ha hi]
    exact ⟨rfl, rfl⟩
  · rw [settle_idle] at hi
    rw [settle_settings] at hd ⊢
    rw [settled_idle hi, if_pos (hs.imp_right fun ⟨ha, hl, hw⟩ => hcrosses ha hl hw)]
    exact startIdle_timers hd
  · rw [settle_idle] at hi
    have hn : x ≠ some k := fun e => by
      obtain ⟨ha, hl⟩ := hcrossed e
      exact hc.elim (absurd ha) fun h => by rw [hl] at h; cases h
    rw [settled_idle hi, if_neg (by simp [hs, hn])]
    exact hu.kept hn (active_of_idle hs) (active_of_idle hi)
  · rw [settle_settings] at hd
    have hui : (u.lane k).idleTimer = none := hu.idle.elim (fun e => e.trans hs) id
    by_cases ha : (u.lane k).state = .active
    · cases hi : u.idle k with
      | false => rw [settled_busy ha hi]
      | true =>
        rw [settled_idle hi, (startIdle_zero _).1 hd, ite_self]
        exact hui
    · rw [settled_not_active ha]
  · rw [settle_idle] at hi
    rw [settle_settings] at hd
    have hud : (u.lane k).deepTimer = none := (hu.deep (active_of_idle hi)).elim (fun e => e.trans hs) id
    rw [settled_idle hi]
    split
    · rcases hd with hd | hd
      · rw [(startIdle_zero _).1 hd]; exact hud
      · rw [(startIdle_zero _).2 hd]; exact hud
    · exact hud

end Sys2Proof.Machine

/-!
# A lost lane, and the lane after it

What is left of a lane that is lost (R123, R126), what of the rest, and the HELLO (R120) and the SET_LANE (R157) that lose a live lane.
-/

namespace Sys2Proof.Machine

-- One theorem is elaborated after the other: many at once need too many threads.
set_option Elab.async false

/-! ### Notices that delivery does not raise -/

theorem foldl_notice {α : Type} {n : NoticeKind} {f : State → α → State} (hf : ∀ s a, (f s a).notice n = s.notice n) (l : List α) (s : State) :
    (l.foldl f s).notice n = s.notice n := by
  induction l generalizing s with
  | nil => rfl
  | cons a rest ih => exact (ih _).trans (hf s a)

section notices
variable {n : NoticeKind} (hf : n ≠ .tableFault) (hs : n ≠ .entryStranded)
include hf hs

/-- An offer raises TABLE_FAULT and ENTRY_STRANDED, and no other notice (R11, R20). -/
theorem offer_notice (i : EntryIdx) (s : State) : (offer i s).notice n = s.notice n := by
  have ho := offer_outcome i s
  generalize offer i s = t at ho
  cases ho with
  | latches => rfl
  | quarantines => exact (FaultsOnly.quarantineLoose i s).1 n hf
  | strands => rw [raiseNotice_notice, if_neg hs]; rfl
  | places k =>
    unfold place
    split <;> rfl

theorem settleRelease_notice (i : EntryIdx) (s : State) : (settleRelease i s).notice n = s.notice n := by
  unfold settleRelease
  split
  · exact offer_notice hf hs i _
  · rfl

theorem releaseAll_notice (is : List EntryIdx) (s : State) : (releaseAll is s).notice n = s.notice n := by
  unfold releaseAll
  rw [foldl_notice fun s i => settleRelease_notice hf hs i s, foldl_notice (f := fun t i => unbind i t) fun _ _ => rfl]

omit hf hs in
theorem lossOfManagement_notice (k : LaneId) (s : State) (n : NoticeKind) : (lossOfManagement k s).notice n = s.notice n := by
  rw [lossOfManagement_eq]
  split <;> rfl

/-- A lane loss raises no notice but these two before its own (R122 to R126). -/
theorem laneLost_notice (k : LaneId) (cause : LossCause) (s : State) : (laneLost k cause s).notice n = s.notice n := by
  have hwork : (workMoved k cause s).notice n = s.notice n :=
    foldl_notice (fun s i => (offer_notice hf hs i _).trans ((FaultsOnly.withdraw i s).1 n hf)) _ (lossOfLane k cause s)
  have hbound : (lossOfBindings k (workMoved k cause s)).notice n = (workMoved k cause s).notice n := by
    rw [lossOfBindings_eq]
    exact releaseAll_notice hf hs _ _
  rw [← hwork, ← hbound, laneLost]
  exact lossOfManagement_notice k _ n

end notices

section loss
variable {s : State} {k : LaneId} {cause : LossCause}

/-- LANE_DOWN is raised by the causes that raise it, and by no other (R122). -/
theorem laneLoss_notice (k : LaneId) (cause : LossCause) (s : State) :
    (laneLoss k cause s).notice .laneDown =
      match lossCode cause with
      | some d => (raiseNotice .laneDown (k.val * 16 + d) s).notice .laneDown
      | none => s.notice .laneDown := by
  have h : ∀ c, (laneLost k c s).notice .laneDown = s.notice .laneDown := fun c => laneLost_notice (by decide) (by decide) k c s
  rw [laneLoss_cases]
  cases cause <;> simp only [lossCode, raiseNotice_notice, if_true, h]

/-! ### The lanes after a loss -/

/-- A lane as its loss leaves it: nothing on it, and its settings, its counters and its enqueue sequence as they were (R123, R124, R126). -/
def Lane.lost (cause : LossCause) (l : Lane) : Lane :=
  { l with
    state := if cause = .disabled then .disabled else .down
    link := if cause = .linkLost then false else l.link
    helloReply := none, control := [], idleTimer := none, deepTimer := none, parkReplyTimer := none, wakeTimer := none
    wakePending := false, deepParkDue := false, bridgeWake := false, queue := [], held := [], creditLimit := none, availableCredit := 0
    slot := none, readPos := 0, sending := none }

theorem Lane.lost_not_live (cause : LossCause) (l : Lane) : (l.lost cause).state.live = false := by
  unfold Lane.lost
  dsimp only
  split <;> rfl

/-- The second and the third part of a loss, for every lane. -/
theorem Works.lossOfMoved (k : LaneId) (cause : LossCause) (s : State) :
    Works (Machine.lossOfLane k cause s) (Machine.lossOfBindings k (workMoved k cause s)) :=
  (Works.lossOfWork k _).trans (.lossOfBindings k _)

/-- The fourth part empties the management state of the lane, and the read positions where it owns the staging list (R126, R170). -/
theorem lossOfManagement_lane (k : LaneId) (s : State) (j : LaneId) :
    (lossOfManagement k s).lane j =
      if j = k then { s.lane k with control := [], slot := none, readPos := 0 }
      else if s.owner = some k then { s.lane j with readPos := 0 } else s.lane j := by
  have h : ∀ r, State.lane { s.modLane k (fun l => { l with control := [], slot := none, readPos := 0 }) with restart := r } j =
      if j = k then { s.lane k with control := [], slot := none, readPos := 0 } else s.lane j := fun r => by rw [lane_with_restart, lane_modLane]
  rw [lossOfManagement_eq]
  split
  · rw [clearStaging_lane, h]
    split <;> rfl
  · rw [h]

/-- The notice of a loss is a matter of delivery. -/
theorem laneLoss_works (k : LaneId) (cause : LossCause) (s : State) : Works (laneLost k cause s) (laneLoss k cause s) := by
  rw [laneLoss_cases]
  cases cause with
  | linkLost | wakeTimeout | restarted => exact .raiseNotice _ _ _
  | closed | disabled => exact .refl _

theorem PlacementSound.laneLoss (h : PlacementSound s) (k : LaneId) (cause : LossCause) : PlacementSound (laneLoss k cause s) :=
  (laneLoss_deeds k cause s).placement h

theorem Leaves.away {d : DeliveryState} (h : Leaves s k d) : d ≠ .queued k ∧ d ≠ .held k ∧ ∀ v, d ≠ .outstanding k v := by
  rcases h with rfl | rfl | ⟨j, hj, -, rfl | rfl⟩ <;> simp [*]

/-- After a loss no entry refers to the lane (R124, R125). -/
theorem laneLoss_away (h : PlacementSound s) (k : LaneId) (cause : LossCause) (i : EntryIdx) :
    ((laneLoss k cause s).entry i).state ≠ .queued k ∧ ((laneLoss k cause s).entry i).state ≠ .held k ∧
    ∀ v, ((laneLoss k cause s).entry i).state ≠ .outstanding k v := by
  obtain ⟨hwaits, hbound, hother⟩ := laneLoss_moves k cause h i
  by_cases hw : (s.entry i).state = .queued k ∨ (s.entry i).state = .held k
  · exact (hwaits hw).2.away
  · rw [not_or] at hw
    by_cases hb : ∃ v, (s.entry i).state = .outstanding k v
    · obtain ⟨v, hv⟩ := hb
      obtain ⟨hlow, hhigh⟩ := hbound v hv
      cases hl : (s.entry i).line with
      | false => rw [(hlow hl).1]; exact ⟨nofun, nofun, fun _ => nofun⟩
      | true => exact (hhigh hl).2.away
    · rw [not_exists] at hb
      rw [hother hw.1 hw.2 hb]
      exact ⟨hw.1, hw.2, hb⟩

/-- The lane that is lost, whole (R123 to R126). -/
theorem laneLoss_lane (h : PlacementSound s) (k : LaneId) (cause : LossCause) : (laneLoss k cause s).lane k = (s.lane k).lost cause := by
  obtain ⟨hin, hheld, -⟩ := h.laneLoss k cause
  have hq : ((laneLoss k cause s).lane k).queue = [] :=
    List.map_eq_nil_iff.mp (List.eq_nil_iff_forall_not_mem.mpr fun i hi => (laneLoss_away h k cause i).1 ((hin k i).mp hi))
  have hh : ((laneLoss k cause s).lane k).held = [] :=
    List.eq_nil_iff_forall_not_mem.mpr fun i hi => (laneLoss_away h k cause i).2.1 ((hheld k i).mp hi)
  have hoff : ((lossOfLane k cause s).lane k).state.live = false := lossOfLane_not_live k cause s
  have hmoved := Works.lossOfMoved k cause s k
  have hraised := laneLoss_works k cause s k
  rw [laneLost] at hraised
  generalize lossOfBindings k (workMoved k cause s) = v at hmoved hraised
  rw [lossOfManagement_lane, if_pos rfl] at hraised
  have hlow : (v.lane k).state.live = false := hmoved.delivers.live.trans hoff
  rw [hraised.calm (LaneState.calm_of_not_live hlow), hq, hh, hraised.off hlow, hmoved.off hoff, hmoved.calm (LaneState.calm_of_not_live hoff),
    lossOfLane, lane_modLane_same]
  rfl

/-- The control queue of another lane stands through a loss. -/
theorem laneLoss_control {j : LaneId} (hj : j ≠ k) (cause : LossCause) (s : State) :
    ((laneLoss k cause s).lane j).control = (s.lane j).control := by
  have hmoved := Works.lossOfMoved k cause s j
  have hraised := (laneLoss_works k cause s j).delivers.1
  rw [laneLost] at hraised
  generalize lossOfBindings k (workMoved k cause s) = v at hmoved hraised
  rw [lossOfManagement_lane, if_neg hj] at hraised
  rw [lossOfLane, lane_modLane_ne s hj] at hmoved
  have hc : (v.lane j).control = (s.lane j).control :=
    Eq.trans (congrArg Lane.control hmoved.delivers.1 :) rfl
  have hr := congrArg Lane.control hraised
  rw [hr, ← hc]
  split <;> rfl

/-- A lane live after the loss is another lane, and was live before. -/
theorem laneLoss_live {j : LaneId} (h : (laneLoss k cause s).live j = true) : j ≠ k ∧ s.live j = true := by
  refine lossOfLane_live k cause ?_
  by_contra hl
  have := (Runs.lossOfRest k cause s j).off (Bool.not_eq_true _ ▸ hl)
  rw [State.live, this] at h
  cases h

/-! ### The rest of the state after a loss -/

theorem DeliveryFrame.refl (s : State) : DeliveryFrame s s := rfl

/-- Whose the staging list is, and what the restart waits for (R126, R162). -/
theorem laneLoss_management (k : LaneId) (cause : LossCause) (s : State) :
    (s.owner = some k → (laneLoss k cause s).owner = none ∧ (laneLoss k cause s).staging = []) ∧
    (s.owner ≠ some k → (laneLoss k cause s).owner = s.owner ∧ (laneLoss k cause s).staging = s.staging) ∧
    (laneLoss k cause s).restart = if s.restart = .awaitingDone k then .due else s.restart := by
  have hframe : DeliveryFrame s (lossOfBindings k (workMoved k cause s)) := lossOfBindings_frame k cause s
  have hnotice : DeliveryFrame (laneLost k cause s) (laneLoss k cause s) := by
    rw [laneLoss_cases]
    cases cause with
    | linkLost | wakeTimeout | restarted => exact (Delivers.raiseNotice _ _ _).frame
    | closed | disabled => exact .refl _
  rw [laneLost] at hnotice
  generalize lossOfBindings k (workMoved k cause s) = v at hframe hnotice
  generalize laneLoss k cause s = u at hnotice
  rw [hnotice, lossOfManagement_eq, hframe]
  dsimp only
  split
  · next h => exact ⟨fun _ => ⟨rfl, rfl⟩, absurd h, rfl⟩
  · next h => exact ⟨fun h' => absurd h' h, fun _ => ⟨rfl, rfl⟩, rfl⟩

end loss

/-- The lane loss that a command makes (R122). -/
theorem losesLane_next {s : State} {k : LaneId} {c : Instr} {code : Option Nat} (hc : losesLane s k c code) (hl : s.live k = true) :
    ∃ x cause, exec c s = .next (settle x s (laneLoss k cause s)) ∧ lossCode cause = code ∧ cause ≠ .disabled ∧
      (cause = .linkLost ↔ c = .laneLinkLost k) := by
  rcases hc with ⟨rfl, hlink, rfl⟩ | ⟨rfl, hlink, rfl⟩ | ⟨rfl, ht, hs, rfl⟩
  · exact ⟨_, .linkLost, laneLinkLost_next hl hlink, rfl, nofun, fun _ => rfl, fun _ => rfl⟩
  · exact ⟨_, .closed, goodbye_next hl hlink, rfl, nofun, nofun, nofun⟩
  · exact ⟨_, .wakeTimeout, wakeTimerExpiry_next ht hs, rfl, nofun, nofun, nofun⟩

/-- Settles O24: the loss, part by part, and the end of the event, which finds the lane DOWN (R122, R123, R126). -/
theorem laneLossLeavesNothingOnTheLane : Obligations.LaneLossLeavesNothingOnTheLane := by
  intro s k c code hc hl hp
  obtain ⟨x, cause, hnext, hcode, hd, hlink⟩ := losesLane_next hc hl
  obtain ⟨hmine, hother, hrestart⟩ := laneLoss_management k cause s
  obtain ⟨hgroups, hnodes, hports, hpointer, hmanager, hsweep, -⟩ := SameFrame.laneLoss k cause s
  have hnotice := laneLoss_notice k cause s
  have hlane := laneLoss_lane hp k cause
  have hstate := laneLoss_down hd k s
  refine ⟨_, hnext, ?_, laneLoss_away hp k cause, hmine, hother, fun h => hrestart.trans (if_pos h), fun h => hrestart.trans (if_neg h),
    fun d h => ?_, fun h => ?_, hports, hnodes, hgroups, hsweep, hmanager, hpointer⟩
  · rw [settled_not_active (by rw [hstate]; nofun), hlane, Lane.lost, if_neg hd]
    simp only [hlink]
  · rw [settle_notice, hnotice, hcode, h]
  · rw [settle_notice, hnotice, hcode, h]

end Sys2Proof.Machine

/-!
# The park handshake, the timers of a lane, its link and its transmitter

Each command here changes one lane alone: the lane it leaves is computed from the lane it finds, in each lane state (R117, R128 to R133, R136, R137, R200).
-/

namespace Sys2Proof.Machine

-- One theorem is elaborated after the other: many at once need too many threads.
set_option Elab.async false

section lane
variable {s : State} {k : LaneId}

/-! ### The handshake (R129, R131) -/

theorem parkGranted_of_parking {l : Lane} {d : Depth} (hs : l.state = .parking d) (ht : l.parkReplyTimer.isSome = true) : l.parkGranted = some d := by
  obtain ⟨n, hn⟩ := Option.isSome_iff_exists.mp ht
  simp only [Lane.parkGranted, hs, hn]

theorem parkGranted_eq_none {l : Lane} (h : (∀ d, l.state ≠ .parking d) ∨ l.parkReplyTimer = none) : l.parkGranted = none := by
  unfold Lane.parkGranted
  split
  · next d _ hs ht => exact h.elim (absurd hs <| · d) (by simp [ht])
  · rfl

/-- The handshake is over: the host wake input as the reply brought it, the reply timer stopped, what was noted in PARKING read and cleared. -/
def Lane.replied (w : Bool) (l : Lane) : Lane := { l with hostWake := w, parkReplyTimer := none, wakePending := false, deepParkDue := false }

/-- A wake with the wake time of the depth left, the bridge wake signal raised where work to send asked for it (R129, R132). -/
def Lane.wakesFor (pending : Bool) (time : Nat) (l : Lane) : Lane :=
  { l with state := .waking, wakeTimer := some time, deepTimer := none, bridgeWake := pending || l.bridgeWake }

theorem parkAccepted_doze (w : Bool) (l : Lane) :
    parkAccepted .doze w { l with hostWake := w } =
      if l.wakePending || w then (l.replied w).wakesFor l.wakePending 1000
      else if l.deepParkDue then { l.replied w with state := .parking .deep } else { l.replied w with state := .doze } := by
  unfold parkAccepted deepParkIfDue wakeOnEntry Lane.wake
  cases l.wakePending <;> cases w <;> cases l.deepParkDue <;> rfl

theorem parkAccepted_deep (w : Bool) (l : Lane) :
    parkAccepted .deep w { l with hostWake := w } =
      if l.wakePending || w then (l.replied w).wakesFor l.wakePending 20000
      else { l.replied w with state := .deep, deepTimer := none } := by
  unfold parkAccepted deepParkIfDue wakeOnEntry Lane.wake
  cases l.wakePending <;> cases w <;> cases l.deepParkDue <;> rfl

theorem declined_doze (w : Bool) (l : Lane) :
    declined .doze w l =
      { l.replied w with
        state := .active, deepTimer := none
        counters := { l.counters with parksDeclined := l.counters.parksDeclined + 1 } } := rfl

theorem declined_deep (w : Bool) (l : Lane) :
    declined .deep w l =
      let m := { l.replied w with counters := { l.counters with parksDeclined := l.counters.parksDeclined + 1 } }
      if l.wakePending || w then m.wakesFor l.wakePending 1000 else { m with state := .doze, deepTimer := deepRemainder l } := by
  unfold declined parkDeclined wakeOnEntry Lane.wake
  cases l.wakePending <;> cases w <;> rfl

theorem parkAck_granted {d : Depth} (hl : (s.lane k).link = true) (hd : (s.lane k).parkGranted = some d) (w : Bool) :
    ∃ t, exec (.parkAck k w) s = .next t ∧ t.still = (s.modLane k fun l => parkAccepted d w { l with hostWake := w }).still :=
  event_still (by rw [if_pos hl]; simp only [hd, modLane_modLane])

/-- PARK_NAK and the reply timer do the same to a lane whose PARK has been granted. -/
theorem park_declined {d : Depth} (hd : (s.lane k).parkGranted = some d) {w : Bool} {c : Instr}
    (hc : (c = .parkNak k w ∧ (s.lane k).link = true) ∨ c = .parkReplyTimeout k w) :
    ∃ t, exec c s = .next t ∧ t.still = (s.modLane k (declined d w)).still := by
  rw [← declined_eq]
  rcases hc with ⟨rfl, hl⟩ | rfl
  · exact event_still (by rw [if_pos hl]; simp only [hd, modLane_modLane])
  · change ∃ t, execParkReplyTimeout k w s = .next t ∧ _
    exact event_still (by simp only [hd])

/-- Settles O29: the two replies and the reply timer, at each depth (R129, R131). -/
theorem parkRepliesSettleTheHandshake : Obligations.ParkRepliesSettleTheHandshake := by
  intro s k w ht
  dsimp only
  refine ⟨fun hs => ?_, fun hs => ?_⟩
  all_goals have hd := parkGranted_of_parking hs ht
  · refine ⟨fun hl => ?_, fun c hc => park_declined hd hc⟩
    obtain ⟨t, hnext, ht⟩ := parkAck_granted hl hd w
    exact ⟨t, hnext, ht.trans (congrArg State.still (modLane_congr (parkAccepted_doze w _)))⟩
  · refine ⟨fun hl => ?_, fun c hc => ?_⟩
    · obtain ⟨t, hnext, ht⟩ := parkAck_granted hl hd w
      exact ⟨t, hnext, ht.trans (congrArg State.still (modLane_congr (parkAccepted_deep w _)))⟩
    · obtain ⟨t, hnext, ht⟩ := park_declined hd hc
      exact ⟨t, hnext, ht.trans (congrArg State.still (modLane_congr (declined_deep w _)))⟩

/-! ### A host frame that no handshake takes (R130) -/

theorem hostFrame_live (hl : (s.lane k).link = true) (hlive : s.live k = true) (take : State → State) : hostFrame k take s = take (frameWakes k s) :=
  if_pos (by rw [hl, hlive]; rfl)

theorem hostFrame_not_live (hoff : s.live k = false) (take : State → State) : hostFrame k take s = s :=
  if_neg (by rw [hoff, Bool.and_false]; nofun)

/-- A host frame makes its lane ACTIVE, and ends what was under way there (R130, R132, R133). -/
def Lane.heard (l : Lane) : Lane :=
  match l.state with
  | .parking _ =>
    { l with
      state := .active, parkReplyTimer := none, deepTimer := none, wakePending := false, deepParkDue := false
      counters := if l.parkReplyTimer.isSome then { l.counters with parksDeclined := l.counters.parksDeclined + 1 } else l.counters }
  | .doze | .deep => { l with state := .active, deepTimer := none }
  | .waking => { l with state := .active, wakeTimer := none, bridgeWake := false }
  | .active | .down | .disabled => l

theorem frameWakes_eq (k : LaneId) (s : State) : frameWakes k s = s.modLane k Lane.heard := by
  unfold frameWakes
  split
  · next d hs =>
    dsimp only
    split
    · next ht =>
      rw [countDeclined, State.count, modLane_modLane]
      exact modLane_congr (by simp only [Lane.heard, hs, ht, if_true])
    · next ht => exact modLane_congr (by simp only [Lane.heard, hs, ht]; rfl)
  · next hs => exact modLane_congr (by simp only [Lane.heard, hs])
  · next hs => exact modLane_congr (by simp only [Lane.heard, hs])
  · next hs => exact modLane_congr (by simp only [Lane.heard, hs])
  all_goals next hs => exact (modLane_self (by simp only [Lane.heard, hs])).symm

/-- A reply outside the handshake is a host frame that carries nothing (R130). -/
theorem park_reply_ungranted (hl : (s.lane k).link = true) (hd : (s.lane k).parkGranted = none) {w : Bool} {c : Instr}
    (hc : c = .parkAck k w ∨ c = .parkNak k w) :
    ∃ t, exec c s = .next t ∧ t.still = (hostFrame k id (s.modLane k fun l => { l with hostWake := w })).still := by
  rcases hc with rfl | rfl <;> exact event_still (by rw [if_pos hl]; simp only [hd])

theorem live_with_hostWake (s : State) (k : LaneId) (w : Bool) : (s.modLane k fun l => { l with hostWake := w }).live k = s.live k := by
  rw [State.live, State.live, lane_modLane_same]

/-- Settles O30: on a live lane the frame is heard and does nothing else, on any other lane it is not heard (R118, R130). -/
theorem hostFrameMakesTheLaneActive : Obligations.HostFrameMakesTheLaneActive := by
  intro s k w hl
  have hw : ((s.modLane k fun l => { l with hostWake := w }).lane k).link = true := by rw [lane_modLane_same]; exact hl
  refine ⟨fun hlive => ⟨frameWakes_eq k s, event_still (hostFrame_live hl hlive id), fun hg c hc => ?_⟩, fun hoff c hc => ?_, fun hoff c hc => ?_⟩
  · obtain ⟨t, hnext, ht⟩ := park_reply_ungranted hl (parkGranted_eq_none hg) hc
    rw [hostFrame_live hw ((live_with_hostWake s k w).trans hlive)] at ht
    exact ⟨t, hnext, ht⟩
  · rcases hc with ⟨v, rfl⟩ | ⟨n, rfl⟩ | ⟨x, rfl⟩ | rfl | rfl
    case inr.inr.inr.inr => exact event_still (if_neg (by rw [hoff, Bool.and_false]; nofun))
    all_goals exact event_still (hostFrame_not_live hoff _)
  · have hd : (s.lane k).parkGranted = none := parkGranted_eq_none (.inl fun d hs => by rw [State.live, hs] at hoff; cases hoff)
    obtain ⟨t, hnext, ht⟩ := park_reply_ungranted hl hd hc
    rw [hostFrame_not_live ((live_with_hostWake s k w).trans hoff)] at ht
    exact ⟨t, hnext, ht⟩

/-! ### The timers, the host wake input and the link -/

theorem event_modLane {x : Option LaneId} {f g : Lane → Lane} (h : f (s.lane k) = g (s.lane k)) :
    ∃ t, event x s (fun s => s.modLane k f) = .next t ∧ t.still = (s.modLane k g).still :=
  event_still (modLane_congr h)

/-- A raise of the host wake input wakes a lane in DOZE and DEEP, without the bridge wake signal, and is noted in PARKING (R130, R132, R200). -/
theorem hostWakes_eq (l : Lane) :
    { l with hostWake := true }.hostWakes =
      match l.state with
      | .parking _ => { l with hostWake := true, wakePending := true }
      | .doze => { l with hostWake := true, state := .waking, wakeTimer := some 1000, deepTimer := none }
      | .deep => { l with hostWake := true, state := .waking, wakeTimer := some 20000, deepTimer := none }
      | .active | .waking | .down | .disabled => { l with hostWake := true } := by
  unfold Lane.hostWakes Lane.wake
  dsimp only
  cases l.state <;> rfl

/-- Settles O32: each event by the lane state it finds (R117, R128, R131, R200). -/
theorem laneTimersLinkAndWakeInput : Obligations.LaneTimersLinkAndWakeInput := by
  intro s k
  refine ⟨fun ht hs => ?idle, fun ht hs => ?deep, fun ht hs => ?due, fun hl => ?raised, fun hl => ?unheard, ?gained, fun hl hoff => ?lost⟩
  case idle =>
    change ∃ t, execIdleTimerExpiry k s = .next t ∧ _
    exact event_modLane (if_pos ⟨ht, hs⟩)
  case deep | due =>
    obtain ⟨n, hn⟩ := Option.isSome_iff_exists.mp ht
    change ∃ t, execDeepTimerExpiry k s = .next t ∧ _
    exact event_modLane (by simp only [hn, hs])
  case raised =>
    change ∃ t, execHostWakeRaised k s = .next t ∧ _
    exact event_modLane ((if_pos hl).trans (hostWakes_eq _))
  case unheard =>
    change ∃ t, execHostWakeRaised k s = .next t ∧ _
    exact event_modLane (if_neg (by rw [hl]; nofun))
  case gained =>
    change ∃ t, execLaneLinkGained k s = .next t ∧ _
    exact event_modLane rfl
  case lost =>
    change ∃ t, execLaneLinkLost k s = .next t ∧ _
    exact event_still (by rw [if_pos hl, if_neg (by rw [hoff]; nofun)])

/-! ### The transmitter (R136, R137) -/

theorem noticeKinds_sorted : noticeKinds.Pairwise fun a b => a.number < b.number := by decide

/-- The unsent kind with the lowest number (R136). -/
theorem firstUnsent_eq {kind : NoticeKind} (hset : (s.notice kind).isSet = true) (hsent : (s.notice kind).sent = false)
    (hleast : ∀ j : NoticeKind, j.number < kind.number → (s.notice j).isSet = false ∨ (s.notice j).sent = true) : s.firstUnsent = some kind := by
  obtain ⟨before, after, hsplit⟩ := List.append_of_mem (mem_noticeKinds kind)
  refine List.find?_eq_some_iff_append.mpr ⟨by simp [NoticeRecord.unsent, hset, hsent], before, after, hsplit, fun j hj => ?_⟩
  have hlow : j.number < kind.number := by
    have hsorted := noticeKinds_sorted
    rw [hsplit, List.pairwise_append] at hsorted
    exact hsorted.2.2 j hj kind List.mem_cons_self
  rcases hleast j hlow with h | h <;> simp [NoticeRecord.unsent, h]

/-- A completion frees the transmitter; that of the DONE awaited makes the restart due (R137, R162). -/
theorem completion_next {f : LaneFrame} (hf : (s.lane k).sending = some f) :
    ∃ t, exec (.transmissionComplete k) s = .next t ∧
      t.still = (if s.restart = .awaitingDone k ∧ isRestartDone f = true then { s with restart := .due }.modLane k fun l => { l with sending := none }
        else s.modLane k fun l => { l with sending := none }).still := by
  change ∃ t, execTransmissionComplete k s = .next t ∧ _
  refine event_still ?_
  simp only [hf]
  split <;> rfl

theorem isRestartDone_iff {f : LaneFrame} :
    isRestartDone f = true ↔ ∃ tag data, f = .response { tag := tag, op := 0x15, outcome := .done, data := data } := by
  cases f with
  | response r =>
    rw [isRestartDone, decide_eq_true_eq]
    constructor
    · rintro ⟨hop, hout⟩
      exact ⟨r.tag, r.data, by rw [← hop, ← hout]⟩
    · rintro ⟨tag, data, h⟩
      cases h
      exact ⟨rfl, rfl⟩
  | _ => exact ⟨nofun, fun ⟨_, _, h⟩ => nomatch h⟩

/-- Settles O34: each grant hands its frame to the transmitter, and the completion takes it away (R136, R137). -/
theorem grantsAndCompletion : Obligations.GrantsAndCompletion := by
  intro s k
  refine ⟨fun hg hr => ?ack, fun m hg hr => ?nak, fun d hg hs => ?park, fun r rest hg hc => ?control,
    fun kind hk hg hset hsent hleast => ?notice, fun f hf hr => ?freed, fun f hf hn => ?other, fun tag data hf hr => ?done⟩
  case ack =>
    change ∃ t, execHelloReplyGrant k s = .next t ∧ _
    exact event_still (by simp only [hg, hr, startSending, helloFrame, modLane_modLane])
  case nak =>
    change ∃ t, execHelloReplyGrant k s = .next t ∧ _
    exact event_still (by simp only [hg, hr, startSending, helloFrame, modLane_modLane])
  case park =>
    change ∃ t, execParkGrant k s = .next t ∧ _
    exact event_still (by simp only [hg, hs, startSending, modLane_modLane]; rfl)
  case control =>
    change ∃ t, execMgmtResponseGrant k s = .next t ∧ _
    exact event_still (by simp only [hg, hc, startSending, modLane_modLane])
  case notice =>
    subst hk
    change ∃ t, execNoticeGrant s = .next t ∧ _
    exact event_still (by simp only [hg, firstUnsent_eq hset hsent hleast, startSending])
  case freed =>
    have h := completion_next hf
    rwa [if_neg fun e => hr e.1] at h
  case other =>
    have h := completion_next hf
    rwa [if_neg fun e => (isRestartDone_iff.mp e.2).elim fun tag ⟨data, e⟩ => hn tag data e] at h
  case done =>
    have h := completion_next hf
    rwa [if_pos ⟨hr, isRestartDone_iff.mpr ⟨tag, data, rfl⟩⟩] at h

end lane

end Sys2Proof.Machine

/-!
# The HELLO on a live lane

R120 is a lane loss and then the HELLO on the DOWN lane: what the HELLO leaves of a DOWN lane and of the rest, and the two put together.
-/

namespace Sys2Proof.Machine

-- One theorem is elaborated after the other: many at once need too many threads.
set_option Elab.async false

section hello
variable {s : State} {k : LaneId} {m : Byte}

/-! ### A HELLO on a DOWN lane (R119) -/

/-- A credit limit that R119 takes. -/
abbrev LimitValid (m : Byte) : Prop := 1 ≤ m.toNat ∧ m.toNat ≤ 64

theorem helloDown_of_valid (hm : LimitValid m) (k : LaneId) (s : State) :
    helloDown k m s = offerAll (strandedNaming k s) (broughtUp k m s) := (helloDown_eq k m s).trans (if_pos hm)

theorem helloDown_of_not_valid (hm : ¬ LimitValid m) (k : LaneId) (s : State) :
    helloDown k m s = s.modLane k fun l => { l with helloReply := some (.nak m) } := (helloDown_eq k m s).trans (if_neg hm)

/-- With a valid limit the lane is ACTIVE with full credit, and the stranded entries may be placed on it. -/
theorem helloDown_lane_of_valid (hm : LimitValid m) (k : LaneId) (s : State) :
    ∃ q h n, (helloDown k m s).lane k =
      { s.lane k with
        state := .active, helloReply := some .ack, creditLimit := some m.toNat, availableCredit := m.toNat
        queue := q, held := h, enqueueSeq := n } := by
  have hworks := Works.offerAll (strandedNaming k s) (broughtUp k m s) k
  have hup : (broughtUp k m s).lane k =
      { s.lane k with state := .active, helloReply := some .ack, creditLimit := some m.toNat, availableCredit := m.toNat } := by
    rw [broughtUp, lane_modLane_same]
  rw [hup] at hworks
  rw [helloDown_of_valid hm]
  exact ⟨_, _, _, hworks.calm rfl⟩

theorem helloDown_lane_of_not_valid (hm : ¬ LimitValid m) (k : LaneId) (s : State) :
    (helloDown k m s).lane k = { s.lane k with helloReply := some (.nak m) } := by
  rw [helloDown_of_not_valid hm, lane_modLane_same]

theorem helloDown_frame (k : LaneId) (m : Byte) (s : State) : DeliveryFrame s (helloDown k m s) := by
  by_cases hm : LimitValid m
  · rw [helloDown_of_valid hm]
    exact DeliveryFrame.trans (t := broughtUp k m s) rfl (Delivers.offerAll _ _).frame
  · rw [helloDown_of_not_valid hm]
    rfl

theorem helloDown_laneDown (k : LaneId) (m : Byte) (s : State) : (helloDown k m s).notice .laneDown = s.notice .laneDown := by
  by_cases hm : LimitValid m
  · rw [helloDown_of_valid hm]
    exact foldl_notice (fun t i => offer_notice (by decide) (by decide) i t) _ (broughtUp k m s)
  · rw [helloDown_of_not_valid hm]
    rfl

/-- A HELLO on a DOWN lane changes an entry only where it was STRANDED and the limit is valid: the entry is then offered (R119, R59). -/
theorem helloDown_entry (hp : PlacementSound s) (k : LaneId) (m : Byte) (i : EntryIdx) :
    (helloDown k m s).entry i = s.entry i ∨
    LimitValid m ∧ (s.entry i).state = .stranded ∧ EntryOffered (broughtUp k m s) i (s.entry i) ((helloDown k m s).entry i) := by
  by_cases hm : LimitValid m
  · have hquiet : Quiet s (broughtUp k m s) := .modLane s k _
    have hup : PlacementSound (broughtUp k m s) := hquiet.deeds.placement hp
    have hstranded : ∀ i ∈ strandedNaming k s, (s.entry i).state = .stranded := fun i hi => ((strandedNaming_mem i).mp hi).1
    have hunplaced : ∀ i ∈ strandedNaming k s, ((broughtUp k m s).entry i).state.placed = false := fun i hi => by
      rw [hquiet.entry, hstranded i hi]
      rfl
    obtain ⟨-, hsame, hoffered⟩ := offerAll_entries hup (strandedNaming_ascending.imp Fin.ne_of_lt) hunplaced
    rw [helloDown_of_valid hm]
    by_cases hi : i ∈ strandedNaming k s
    · exact .inr ⟨hm, hstranded i hi, hoffered i hi⟩
    · exact .inl (hsame i hi)
  · rw [helloDown_of_not_valid hm]
    exact .inl rfl

theorem EntryOffered.state {i : EntryIdx} {e f : Entry} (h : EntryOffered s i e f) : OfferedState s f.state := by
  obtain ⟨d, q, hd, hf, -⟩ := h
  rw [hf]
  exact hd

theorem EntryOffered.pendingCount {i : EntryIdx} {e f : Entry} (h : EntryOffered s i e f) : f.pendingCount = e.pendingCount := by
  obtain ⟨d, q, -, hf, -⟩ := h
  rw [hf]

/-! ### After the loss (R120) -/

/-- Where an entry waits after a HELLO on a live lane: on a live lane, and on `k` only with a valid limit, or in no lane's work. -/
def WaitsAfterHello (s : State) (k : LaneId) (m : Byte) (d : DeliveryState) : Prop :=
  d = .latched ∨ d = .stranded ∨ ∃ j, (j = k → LimitValid m) ∧ s.live j = true ∧ (d = .queued j ∨ d = .held j)

theorem Leaves.waitsAfterHello {d : DeliveryState} (h : Leaves s k d) : WaitsAfterHello s k m d := by
  rcases h with h | h | ⟨j, hj, hl, h⟩
  · exact .inl h
  · exact .inr (.inl h)
  · exact .inr (.inr ⟨j, fun e => absurd e hj, hl, h⟩)

theorem OfferedState.waitsAfterHello {d : DeliveryState} (h : OfferedState (broughtUp k m (laneLoss k .restarted s)) d) (hm : LimitValid m)
    (hlive : s.live k = true) : WaitsAfterHello s k m d := by
  rcases h with h | h | ⟨j, hj, h⟩
  · exact .inl h
  · exact .inr (.inl h)
  · refine .inr (.inr ⟨j, fun _ => hm, ?_, h⟩)
    by_cases e : j = k
    · rw [e]; exact hlive
    · rw [State.live, broughtUp, lane_modLane_ne _ e] at hj
      exact (laneLoss_live hj).2

section entries
variable (hp : PlacementSound s)
include hp

/-- What the HELLO after the loss does to an entry that left the lane's work (R120). -/
theorem hello_waits (hlive : s.live k = true) (m : Byte) {i : EntryIdx} (h : Leaves s k ((laneLoss k .restarted s).entry i).state) :
    WaitsAfterHello s k m ((helloDown k m (laneLoss k .restarted s)).entry i).state ∧
    ((helloDown k m (laneLoss k .restarted s)).entry i).pendingCount = ((laneLoss k .restarted s).entry i).pendingCount := by
  rcases helloDown_entry (hp.laneLoss k .restarted) k m i with e | ⟨hm, -, h⟩
  · rw [e]
    exact ⟨h.waitsAfterHello, rfl⟩
  · exact ⟨h.state.waitsAfterHello hm hlive, h.pendingCount⟩

/-- Only an entry that the loss leaves STRANDED is offered by the HELLO that follows. -/
theorem hello_entry_of_not_stranded {i : EntryIdx} (h : LimitValid m → ((laneLoss k .restarted s).entry i).state ≠ .stranded) :
    (helloDown k m (laneLoss k .restarted s)).entry i = (laneLoss k .restarted s).entry i := by
  rcases helloDown_entry (hp.laneLoss k .restarted) k m i with e | ⟨hm, hs, -⟩
  · exact e
  · exact absurd hs (h hm)

/-- Each entry after a HELLO on a live lane, by what it was to the lane (R120, R124, R125). -/
theorem hello_entries (hlive : s.live k = true) (m : Byte) (i : EntryIdx) :
    ((s.entry i).state = .queued k ∨ (s.entry i).state = .held k →
      WaitsAfterHello s k m ((helloDown k m (laneLoss k .restarted s)).entry i).state ∧
      ((helloDown k m (laneLoss k .restarted s)).entry i).pendingCount = (s.entry i).pendingCount) ∧
    (∀ v, (s.entry i).state = .outstanding k v →
      ((s.entry i).line = false → ((helloDown k m (laneLoss k .restarted s)).entry i).state = .idle ∧
        ((helloDown k m (laneLoss k .restarted s)).entry i).pendingCount = 0) ∧
      ((s.entry i).line = true → WaitsAfterHello s k m ((helloDown k m (laneLoss k .restarted s)).entry i).state ∧
        ((helloDown k m (laneLoss k .restarted s)).entry i).pendingCount = 1)) ∧
    ((s.entry i).state ≠ .queued k → (s.entry i).state ≠ .held k → (∀ v, (s.entry i).state ≠ .outstanding k v) →
      (LimitValid m → (s.entry i).state ≠ .stranded) → (helloDown k m (laneLoss k .restarted s)).entry i = s.entry i) := by
  obtain ⟨hwaits, hbound, hother⟩ := laneLoss_moves k .restarted hp i
  refine ⟨fun hw => ?_, fun v hv => ⟨fun hline => ?_, fun hline => ?_⟩, fun hq hh hv hm => ?_⟩
  · obtain ⟨hc, hleaves⟩ := hwaits hw
    obtain ⟨hafter, hcount⟩ := hello_waits hp hlive m hleaves
    exact ⟨hafter, hcount.trans hc⟩
  · have hidle := (hbound v hv).1 hline
    rw [hello_entry_of_not_stranded hp fun _ => by rw [hidle.1]; nofun]
    exact hidle
  · obtain ⟨hc, hleaves⟩ := (hbound v hv).2 hline
    obtain ⟨hafter, hcount⟩ := hello_waits hp hlive m hleaves
    exact ⟨hafter, hcount.trans hc⟩
  · have hsame := hother hq hh hv
    rw [hello_entry_of_not_stranded hp fun h => by rw [hsame]; exact hm h, hsame]

/-- No entry is bound to the lane (R125). -/
theorem hello_not_bound (k : LaneId) (m : Byte) (i : EntryIdx) (v : Byte) :
    ((helloDown k m (laneLoss k .restarted s)).entry i).state ≠ .outstanding k v := by
  rcases helloDown_entry (hp.laneLoss k .restarted) k m i with e | ⟨-, -, h⟩
  · rw [e]
    exact (laneLoss_away hp k .restarted i).2.2 v
  · exact h.not_outstanding k v

end entries

/-- The end of an event leaves a lane that is not idle as it is where neither of its idle timers runs (R127). -/
theorem settled_stopped {x : Option LaneId} {before : State} (hb : s.idle k = false) (hi : (s.lane k).idleTimer = none)
    (hd : (s.lane k).deepTimer = none) : (settle x before s).lane k = s.lane k := by
  have eta : { s.lane k with idleTimer := (s.lane k).idleTimer, deepTimer := (s.lane k).deepTimer } = s.lane k := rfl
  rw [hi, hd] at eta
  by_cases ha : (s.lane k).state = .active
  · rw [settled_busy ha hb, eta]
  · rw [settled_not_active ha]
    exact (congrArg (fun t => { s.lane k with idleTimer := none, deepTimer := t }) hd).trans eta

/-- The lane is not idle at the end of the event, for its hello reply waits (R127). -/
theorem helloDown_not_idle (k : LaneId) (m : Byte) (s : State) : (helloDown k m s).idle k = false := by
  have h : ((helloDown k m s).lane k).helloReply.isNone = false := by
    by_cases hm : LimitValid m
    · obtain ⟨q, h, n, hlane⟩ := helloDown_lane_of_valid hm k s
      rw [hlane]
      rfl
    · rw [helloDown_lane_of_not_valid hm]
      rfl
  rw [State.idle, h]
  simp

theorem hello_live_next (hl : (s.lane k).link = true) (hlive : s.live k = true) (m : Byte) :
    exec (.hello k m) s = .next (settle (received k s) s (helloDown k m (laneLoss k .restarted s))) := by
  change execHello k m s = _
  rw [execHello, event_next, if_pos hl, if_pos hlive]

/-- The lane as its loss leaves it, except for what the HELLO gives it (R120). -/
theorem hello_live_lane (hp : PlacementSound s) (k : LaneId) (m : Byte) (x : Option LaneId) (before : State) :
    ∃ q h n, (settle x before (helloDown k m (laneLoss k .restarted s))).lane k =
      { (s.lane k).lost .restarted with
        state := if LimitValid m then .active else .down
        helloReply := if LimitValid m then some .ack else some (.nak m)
        creditLimit := if LimitValid m then some m.toNat else none
        availableCredit := if LimitValid m then m.toNat else 0
        queue := if LimitValid m then q else [], held := if LimitValid m then h else [], enqueueSeq := n } := by
  have hlost := laneLoss_lane hp k .restarted
  have hbusy := helloDown_not_idle k m (laneLoss k .restarted s)
  by_cases hm : LimitValid m
  · obtain ⟨q, h, n, hlane⟩ := helloDown_lane_of_valid hm k (laneLoss k .restarted s)
    simp only [if_pos hm]
    rw [hlost] at hlane
    rw [settled_stopped hbusy (by rw [hlane]; rfl) (by rw [hlane]; rfl)]
    exact ⟨q, h, n, hlane⟩
  · simp only [if_neg hm]
    have hlane := helloDown_lane_of_not_valid hm k (laneLoss k .restarted s)
    rw [hlost] at hlane
    rw [settled_stopped hbusy (by rw [hlane]; rfl) (by rw [hlane]; rfl)]
    exact ⟨[], [], _, hlane⟩

end hello

/-- Settles O23: the loss with cause RESTARTED and then the HELLO on the DOWN lane, part by part (R120). -/
theorem helloOnALiveLane : Obligations.HelloOnALiveLane := by
  intro s k m hl hlive hp
  have hlost := laneLoss_lane hp k .restarted
  obtain ⟨u, hagain, hu⟩ := hello_down (s := laneLoss k .restarted s) (m := m) (by rw [hlost]; exact hl) (by rw [hlost]; rfl) rfl
  obtain ⟨q, h, n, hlane⟩ := hello_live_lane hp k m (received k s) s
  obtain ⟨hmine, hother, -⟩ := laneLoss_management k .restarted s
  have hframe := helloDown_frame k m (laneLoss k .restarted s)
  have howner : (helloDown k m (laneLoss k .restarted s)).owner = (laneLoss k .restarted s).owner := by rw [hframe]
  have hstaging : (helloDown k m (laneLoss k .restarted s)).staging = (laneLoss k .restarted s).staging := by rw [hframe]
  refine ⟨_, u, hello_live_next hl hlive m, hagain, (settle_still _ _ _).trans hu.symm, ?_⟩
  rw [hlane]
  refine ⟨rfl, rfl, rfl, rfl, rfl, rfl, rfl, hello_entries hp hlive m, rfl, rfl, rfl, rfl, rfl, rfl, hello_not_bound hp k m, ?owner,
    fun ho => ?staging, ?notice, fun h1 h64 => ?valid, fun hm => ?other⟩
  case owner =>
    rw [settle_owner, howner]
    by_cases ho : s.owner = some k
    · rw [(hmine ho).1]; nofun
    · rw [(hother ho).1]; exact ho
  case staging => rw [settle_staging, hstaging, (hmine ho).2]
  case notice => rw [settle_notice, helloDown_laneDown, laneLoss_notice]; rfl
  case valid =>
    have hv : LimitValid m := ⟨h1, h64⟩
    exact ⟨if_pos hv, if_pos hv, if_pos hv, if_pos hv⟩
  case other =>
    have hv : ¬ LimitValid m := fun hv => by unfold LimitValid at hv; omega
    exact ⟨if_neg hv, if_neg hv, if_neg hv, if_neg hv, if_neg hv, if_neg hv⟩

end Sys2Proof.Machine

/-!
# SET_LANE

Its operand (chapter 11.4), its two refusals in their order, and what the write of the settings does in each case (R155 to R157, R116).
-/

namespace Sys2Proof.Machine

-- One theorem is elaborated after the other: many at once need too many threads.
set_option Elab.async false

/-! ### The operand -/

theorem rightsOperand_rightsCode (r : Rights) : rightsOperand (rightsCode r) = some r := by cases r <;> rfl

theorem enabledOperand_of (e : Bool) : enabledOperand (if e then 0x01 else 0x00) = some e := by cases e <;> rfl

theorem setLaneOperand_of {st : LaneSettings} (hr : st.dozeAfter = 0 ∨ st.deepAfter = 0 ∨ st.dozeAfter.toNat < st.deepAfter.toNat * 10)
    (j : LaneId) (rest : List Byte) :
    setLaneOperand (oneByte j :: rightsCode st.rights :: st.dozeAfter :: st.deepAfter :: (if st.enabled then 0x01 else 0x00) :: rest) =
      some (j, st) := by
  have hin : ¬ (st.dozeAfter ≠ 0 ∧ st.deepAfter ≠ 0 ∧ st.deepAfter.toNat * 10 ≤ st.dozeAfter.toNat) := fun ⟨hz, hd, hle⟩ =>
    hr.elim hz fun h => h.elim hd fun h => absurd hle (Nat.not_le.mpr h)
  simp only [setLaneOperand, below_oneByte (n := 8) (by omega), settingsOperand, rightsOperand_rightsCode, enabledOperand_of, if_neg hin]

/-! ### The write of the settings -/

section write
variable {s : State} {j : LaneId} {st : LaneSettings}

theorem writeSettings_same (h : (s.lane j).settings.enabled = st.enabled) :
    writeSettings j st s = s.modLane j fun l => { l with settings := st } := by
  unfold writeSettings
  rw [h]
  cases st.enabled <;> rfl

theorem writeSettings_enables (hf : (s.lane j).settings.enabled = false) (ht : st.enabled = true) (hs : (s.lane j).state = .disabled) :
    writeSettings j st s = s.modLane j fun l => { l with settings := st, state := .down } := by
  simp only [writeSettings, hf, ht, modLane_modLane]
  exact modLane_congr (by rw [if_pos hs])

theorem writeSettings_disables (ht : (s.lane j).settings.enabled = true) (hf : st.enabled = false) (hs : s.live j = false) :
    writeSettings j st s = s.modLane j fun l => { l with settings := st, state := .disabled, helloReply := none } := by
  simp only [writeSettings, hf, ht, hs, modLane_modLane]
  rfl

theorem writeSettings_loses (ht : (s.lane j).settings.enabled = true) (hf : st.enabled = false) (hs : s.live j = true) :
    writeSettings j st s = laneLoss j .disabled (s.modLane j fun l => { l with settings := st }) := by
  simp only [writeSettings, hf, ht, hs, if_true]

end write

/-! ### The refusals, in their order -/

section body
variable {s : State} {k j : LaneId} {st : LaneSettings}

theorem setLaneBody_self (hj : j = k) (hf : st.enabled = false) : setLaneBody k (j, st) s = refuse .refusedSelf s := if_pos ⟨hj, hf⟩

theorem not_self (hn : j ≠ k ∨ st.enabled = true) : ¬ (j = k ∧ st.enabled = false) := fun ⟨hj, hf⟩ =>
  hn.elim (absurd hj) fun h => by rw [hf] at h; cases h

theorem setLaneBody_last (hn : j ≠ k ∨ st.enabled = true) (hm : keepsManager s j st = false) :
    setLaneBody k (j, st) s = refuse .refusedLastManager s := by
  rw [setLaneBody, if_neg (not_self hn), if_pos (by rw [hm]; rfl)]

theorem setLaneBody_writes (hn : j ≠ k ∨ st.enabled = true) (hm : keepsManager s j st = true) :
    setLaneBody k (j, st) s = answer [] (writeSettings j st s) := by
  rw [setLaneBody, if_neg (not_self hn), if_neg (by rw [hm]; nofun)]

end body

/-! ### A live lane disabled -/

section disabled
variable {s : State} {k j : LaneId} {st : LaneSettings}

/-- The state in which the loss of the lane begins: the request is served on lane `k`, and the settings of lane `j` are written. -/
def resettled (k j : LaneId) (st : LaneSettings) (s : State) : State := { s with pointer := k }.modLane j fun l => { l with settings := st }

theorem resettled_lane : (resettled k j st s).lane j = { s.lane j with settings := st } := lane_modLane_same ..

theorem resettled_lane_ne {m : LaneId} (h : m ≠ j) : (resettled k j st s).lane m = s.lane m := lane_modLane_ne _ h _

theorem PlacementSound.resettled (h : PlacementSound s) (k j : LaneId) (st : LaneSettings) : PlacementSound (resettled k j st s) :=
  (Quiet.trans (t := { s with pointer := k }) .of (.modLane _ j _)).deeds.placement h

theorem Leaves.of_resettled {d : DeliveryState} (h : Leaves (Machine.resettled k j st s) j d) : Leaves s j d := by
  rcases h with h | h | ⟨m, hm, hl, h⟩
  · exact .inl h
  · exact .inr (.inl h)
  · rw [State.live, resettled_lane_ne hm] at hl
    exact .inr (.inr ⟨m, hm, hl, h⟩)

theorem Leaves.waits {d : DeliveryState} (h : Leaves s j d) : d.waits = true := by
  rcases h with rfl | rfl | ⟨m, -, -, rfl | rfl⟩ <;> rfl

/-- Where the loss leaves each entry (R124, R125). -/
theorem disabled_entries (hp : PlacementSound s) (k : LaneId) (st : LaneSettings) (i : EntryIdx) :
    ((s.entry i).state = .queued j ∨ (s.entry i).state = .held j →
      ((laneLoss j .disabled (resettled k j st s)).entry i).pendingCount = (s.entry i).pendingCount ∧
      Leaves s j ((laneLoss j .disabled (resettled k j st s)).entry i).state) ∧
    (∀ v, (s.entry i).state = .outstanding j v →
      ((s.entry i).line = false → ((laneLoss j .disabled (resettled k j st s)).entry i).state = .idle ∧
        ((laneLoss j .disabled (resettled k j st s)).entry i).pendingCount = 0) ∧
      ((s.entry i).line = true → ((laneLoss j .disabled (resettled k j st s)).entry i).state.waits = true ∧
        ((laneLoss j .disabled (resettled k j st s)).entry i).pendingCount = 1)) ∧
    ((s.entry i).state ≠ .queued j → (s.entry i).state ≠ .held j → (∀ v, (s.entry i).state ≠ .outstanding j v) →
      (laneLoss j .disabled (resettled k j st s)).entry i = s.entry i) := by
  obtain ⟨hwaits, hbound, hother⟩ := laneLoss_moves j .disabled (hp.resettled k j st) i
  refine ⟨fun hw => ?_, fun v hv => ?_, hother⟩
  · obtain ⟨hcount, hleaves⟩ := hwaits hw
    exact ⟨hcount, hleaves.of_resettled⟩
  · obtain ⟨hlow, hhigh⟩ := hbound v hv
    refine ⟨hlow, fun hl => ?_⟩
    obtain ⟨hcount, hleaves⟩ := hhigh hl
    exact ⟨hleaves.waits, hcount⟩

/-- The lane is DISABLED with its new settings and nothing on it (R123, R124, R126). -/
theorem disabled_lane (hp : PlacementSound s) (k : LaneId) :
    (laneLoss j .disabled (resettled k j st s)).lane j = ({ s.lane j with settings := st } : Lane).lost .disabled := by
  rw [laneLoss_lane (hp.resettled k j st), resettled_lane]

theorem disabled_control (h : k ≠ j) : ((laneLoss j .disabled (resettled k j st s)).lane k).control = (s.lane k).control := by
  rw [laneLoss_control h, resettled_lane_ne h]

theorem disabled_owner : (laneLoss j .disabled (resettled k j st s)).owner ≠ some j := by
  obtain ⟨hmine, hother, -⟩ := laneLoss_management j .disabled (resettled k j st s)
  by_cases ho : (resettled k j st s).owner = some j
  · rw [(hmine ho).1]; nofun
  · rw [(hother ho).1]; exact ho

/-- The loss of a lane that is disabled raises nothing (R122). -/
theorem disabled_laneDown : (laneLoss j .disabled (resettled k j st s)).notice .laneDown = s.notice .laneDown :=
  laneLoss_notice j .disabled (resettled k j st s)

end disabled

section service
variable {s : State} {k j : LaneId} {st : LaneSettings} {r : Request} {rest : List Byte}

theorem setLane_next (h : Serves s k r 0x0E true)
    (ha : r.args = oneByte j :: rightsCode st.rights :: st.dozeAfter :: st.deepAfter :: (if st.enabled then 0x01 else 0x00) :: rest)
    (hr : st.dozeAfter = 0 ∨ st.deepAfter = 0 ∨ st.dozeAfter.toNat < st.deepAfter.toNat * 10) {reply : Reply}
    (hb : setLaneBody k (j, st) { s with pointer := k } = reply) :
    exec .setLane s = .next (settle none s (answered k r reply.outcome reply.data reply.after)) := by
  change execSetLane s = _
  rw [execSetLane, event_next, serve_of_serves h, withOperand_some (by rw [ha]; exact setLaneOperand_of hr j rest), hb]

theorem setLane_done (h : Serves s k r 0x0E true)
    (ha : r.args = oneByte j :: rightsCode st.rights :: st.dozeAfter :: st.deepAfter :: (if st.enabled then 0x01 else 0x00) :: rest)
    (hr : st.dozeAfter = 0 ∨ st.deepAfter = 0 ∨ st.dozeAfter.toNat < st.deepAfter.toNat * 10) {u : State}
    (hb : setLaneBody k (j, st) { s with pointer := k } = answer [] u) :
    exec .setLane s = .next (settle none s (answered k r .done [] u)) := setLane_next h ha hr hb

end service

/-- Settles O45: the two refusals, and each change of the lane's state that the write makes (R155 to R157, R116). -/
theorem setLaneWritesTheSettings : Obligations.SetLaneWritesTheSettings := by
  intro s k j st r rest h ha hr
  have hkeeps := keepsManager_iff { s with pointer := k } j st
  dsimp only
  have refused : ∀ o u, setLaneBody k (j, st) { s with pointer := k } = refuse o u →
      ∃ t, exec .setLane s = .next t ∧ t.still = (answered k r o [] u).still := fun o u hb => ⟨_, setLane_next h ha hr hb, settle_still ..⟩
  have done : ∀ u, setLaneBody k (j, st) { s with pointer := k } = answer [] u →
      ∃ t, exec .setLane s = .next t ∧ t.still = (answered k r .done [] u).still := fun u hb => ⟨_, setLane_done h ha hr hb, settle_still ..⟩
  refine ⟨fun hj hf => refused _ _ (setLaneBody_self hj hf),
    fun hn hm => refused _ _ (setLaneBody_last hn (Bool.eq_false_iff.mpr fun e => hm (hkeeps.mp e))), fun hn hm => ?_⟩
  have hwrites := setLaneBody_writes (s := { s with pointer := k }) hn (hkeeps.mpr hm)
  refine ⟨fun he => done _ (hwrites.trans (congrArg _ (writeSettings_same he))),
    fun hf ht hs => done _ (hwrites.trans (congrArg _ (writeSettings_enables hf ht hs))),
    fun ht hf hs => done _ (hwrites.trans (congrArg _ (writeSettings_disables ht hf (congrArg LaneState.live hs)))), fun ht hf hs hp => ?_⟩
  have hbody : setLaneBody k (j, st) { s with pointer := k } = answer [] (laneLoss j .disabled (resettled k j st s)) := by
    rw [hwrites, writeSettings_loses (s := { s with pointer := k }) ht hf hs, resettled]
  have hnext : exec .setLane s = .next (settle none s (answered k r .done [] (laneLoss j .disabled (resettled k j st s)))) :=
    setLane_done h ha hr hbody
  have hjk : k ≠ j := fun e => hn.elim (absurd e.symm) fun h => by rw [hf] at h; cases h
  have hentries := disabled_entries (j := j) hp k st
  have haway := laneLoss_away (hp.resettled k j st) j .disabled
  have hcontrol : ((laneLoss j .disabled (resettled k j st s)).lane k).control = (s.lane k).control := disabled_control hjk
  have hlane : (laneLoss j .disabled (resettled k j st s)).lane j = _ := disabled_lane hp k
  have howner : (laneLoss j .disabled (resettled k j st s)).owner ≠ some j := disabled_owner
  have hnotice : (laneLoss j .disabled (resettled k j st s)).notice .laneDown = _ := disabled_laneDown
  change ∃ t : State, _ ∧ t.still = (answered k r .done [] (laneLoss j .disabled (resettled k j st s))).still ∧ _
  generalize laneLoss j .disabled (resettled k j st s) = lost at *
  refine ⟨_, hnext, settle_still .., ?control, fun i hw => ?waits, fun i => (hentries i).2.1, fun i => (hentries i).2.2, ?lane,
    fun i => (haway i).2.2, howner, hnotice⟩
  case control =>
    rw [settle_lane, settleIdle_control, answered_lane, if_pos rfl, Lane.workToSend_control]
    dsimp only
    rw [hcontrol]
  case waits => exact (hentries i).1 hw
  case lane =>
    have hanswered : (answered k r .done [] lost).lane j = ({ s.lane j with settings := st } : Lane).lost .disabled := by
      rw [answered_lane, if_neg hjk.symm, hlane]
    rw [settled_not_active (by rw [hanswered]; nofun), hanswered]
    rfl

end Sys2Proof.Machine

/-!
# The engine: which request is served, and what is refused

A request accepted, refused or dropped (R143, R145, R146), the search for the request to serve (R147), and the refusals for an unknown operation, for want of
rights and for want of operands (R148, R149, R151).
-/

namespace Sys2Proof.Machine

-- One theorem is elaborated after the other: many at once need too many threads.
set_option Elab.async false

/-! ### A request at its lane (R143, R145, R146) -/

section request
variable {s : State} {k : LaneId} {payload : List Byte}

theorem takeRequest_short (h : payload.length < 2) : takeRequest k payload s = countDropped s k := by
  unfold takeRequest
  split
  · next tag op args => exact absurd h (by simp)
  · rfl

theorem takeRequest_noPlace (h : Config.controlDepth ≤ placesTaken (s.lane k)) : takeRequest k payload s = countDropped s k := by
  unfold takeRequest
  split
  · exact if_pos h
  · rfl

theorem placesTaken_full (h : (s.lane k).slot.isSome = true) : placesTaken (s.lane k) = (s.lane k).control.length + 1 := by
  rw [placesTaken, if_pos h]

theorem placesTaken_empty (h : (s.lane k).slot = none) : placesTaken (s.lane k) = (s.lane k).control.length := by
  rw [placesTaken, h]
  rfl

/-- A request that meets a full slot is refused; on an ACTIVE lane the response starts no wake (R134, R146). -/
theorem takeRequest_busy (hs : (s.lane k).slot.isSome = true) (hc : (s.lane k).control.length < 3) (ha : (s.lane k).state = .active)
    (tag op : Byte) (args : List Byte) :
    takeRequest k (tag :: op :: args) s = s.modLane k fun l =>
      { l with control := l.control ++ [{ tag := tag, op := op, outcome := .refusedBusy, data := [] }] } := by
  have hfree : ¬ Config.controlDepth ≤ placesTaken (s.lane k) := by rw [placesTaken_full hs, Config.controlDepth]; omega
  simp only [takeRequest, if_neg hfree, if_pos hs, queueControl, State.workToSend, modLane_modLane]
  exact modLane_congr (Lane.workToSend_of_calm (congrArg LaneState.calm ha))

theorem takeRequest_accepted (hs : (s.lane k).slot = none) (hc : (s.lane k).control.length < 4) (tag op : Byte) (args : List Byte) :
    takeRequest k (tag :: op :: args) s = s.modLane k fun l => { l with slot := some { tag := tag, op := op, args := args } } := by
  have hfree : ¬ Config.controlDepth ≤ placesTaken (s.lane k) := by rw [placesTaken_empty hs, Config.controlDepth]; omega
  simp only [takeRequest, if_neg hfree, hs, Option.isSome_none, Bool.false_eq_true, if_false]

/-- A host frame leaves its live lane ACTIVE, with its control queue and its slot as they were (R130, R132, R133). -/
theorem frameWakes_request (hlive : s.live k = true) :
    ((frameWakes k s).lane k).state = .active ∧ ((frameWakes k s).lane k).control = (s.lane k).control ∧
    ((frameWakes k s).lane k).slot = (s.lane k).slot := by
  have hears := frameWakes_lane k s k
  refine ⟨?_, by rw [hears], by rw [hears]⟩
  rw [frameWakes_eq, lane_modLane_same]
  cases hs : (s.lane k).state with
  | disabled | down => rw [State.live, hs] at hlive; cases hlive
  | active | parking | doze | deep | waking => simp only [Lane.heard, hs]

end request

/-- Settles O28: the frame is heard first, and the request then taken by the places of the control queue (R143, R145, R146). -/
theorem requestIsAcceptedRefusedOrDropped : Obligations.RequestIsAcceptedRefusedOrDropped := by
  intro s k payload hl hlive dropped
  obtain ⟨hactive, hcontrol, hslot⟩ := frameWakes_request hlive
  have taken : ∀ {payload u}, takeRequest k payload (frameWakes k s) = u →
      ∃ t, exec (.mgmtRequest k payload) s = .next t ∧ t.still = u.still := fun h => event_still ((hostFrame_live hl hlive _).trans h)
  refine ⟨fun h => taken (takeRequest_short h), fun h => taken (takeRequest_noPlace ?_), fun tag op args hp => ?_⟩
  · rw [placesTaken, hcontrol, hslot]
    exact h
  · subst hp
    exact ⟨fun hc hs => taken (takeRequest_busy (by rw [hslot]; exact hs) (by rw [hcontrol]; exact hc) hactive tag op args),
      fun hc hs => taken (takeRequest_accepted (by rw [hslot]; exact hs) (by rw [hcontrol]; exact hc) tag op args)⟩

/-! ### The search (R147) -/

/-- In a list whose keys ascend, the first member with a value is the one before which, by the keys, no member has a value. -/
theorem findSome?_ascending {α β : Type} {key : α → Nat} {g : α → Option β} {k : α} {r : β} {l : List α}
    (hl : l.Pairwise fun i j => key i < key j) :
    (l.findSome? fun j => (g j).map fun r => (j, r)) = some (k, r) ↔
      k ∈ l ∧ g k = some r ∧ ∀ j ∈ l, key j < key k → g j = none := by
  induction l with
  | nil => simp
  | cons a rest ih =>
    obtain ⟨hfirst, hrest⟩ := List.pairwise_cons.mp hl
    cases hg : g a with
    | none =>
      simp only [List.findSome?_cons, hg, Option.map_none, ih hrest, List.mem_cons, forall_eq_or_imp, implies_true, true_and]
      grind
    | some q =>
      simp only [List.findSome?_cons, hg, Option.map_some, Option.some.injEq, Prod.mk.injEq]
      constructor
      · rintro ⟨rfl, rfl⟩
        refine ⟨List.mem_cons_self, hg, fun j hj hlt => ?_⟩
        rcases List.mem_cons.mp hj with rfl | hj
        · exact absurd hlt (Nat.lt_irrefl _)
        · exact absurd (hfirst j hj) (Nat.lt_asymm hlt)
      · rintro ⟨hk, hr, hnone⟩
        rcases List.mem_cons.mp hk with rfl | hk
        · exact ⟨rfl, Option.some.inj (hg.symm.trans hr)⟩
        · have := hnone a List.mem_cons_self (hfirst k hk)
          rw [hg] at this
          cases this

/-- The search goes by the distance from the lane after the pointer. -/
theorem searchOrder_ascending : ∀ p : LaneId, (searchOrder p).Pairwise fun i j => (i - p - 1).val < (j - p - 1).val := by decide

theorem mem_searchOrder : ∀ p k : LaneId, k ∈ searchOrder p := by decide

/-- Settles O38: the search takes the first full slot of its order (R147). -/
theorem engineServesRoundRobin : Obligations.EngineServesRoundRobin := by
  intro s k r
  unfold nextRequest
  split
  · next hr => simp only [findSome?_ascending (searchOrder_ascending s.pointer), mem_searchOrder, hr, true_and, forall_const]
  · next hr => simp [hr]

/-! ### What is refused at a service (R148, R151) -/

theorem permitted_iff (write : Bool) (x : Rights) : permitted write x = true ↔ x = .full ∨ (x = .observe ∧ write = false) := by
  cases x <;> simp [permitted]

/-- The service of a request that the rights do not allow (R148, R151). -/
theorem serve_not_permitted {s : State} {k : LaneId} {r : Request} {code : Nat} {write : Bool} (hn : nextRequest s = some (k, r))
    (hc : r.op.toNat = code) (hp : permitted write (s.lane k).settings.rights = false) (body : LaneId → List Byte → State → Reply) :
    serve code write body s = answered k r .refusedRights [] { s with pointer := k } := by
  simp only [serve, hn, if_pos hc, serviceOf, hp, respond_eq]
  rfl

/-- Each of the 21 operations is a service under its code, and one that takes operands refuses a payload without any (R148). -/
theorem exec_service {c : Instr} {code : Nat} {write : Bool} (h : serviceCode c = some (code, write)) :
    ∃ body, (∀ s, exec c s = event none s (serve code write body)) ∧
      (takesOperands c = true → ∀ k s, body k [] s = refuse .refusedRange s) := by
  cases c
  case identify | readNotices | readStaging | readSweep | commit | discard | startSweep | restart =>
    cases h
    exact ⟨_, fun _ => rfl, nofun⟩
  case readEntry | readGroup | readLane | readNode | readPort | stageEntry | stageGroup | setLane | setPort | setManager | clearNotices |
      clearCounters | forceRetire =>
    cases h
    exact ⟨_, fun _ => rfl, fun _ _ _ => rfl⟩
  all_goals cases h

theorem not_knownOperation {op : Byte} (h : op = 0 ∨ 21 < op.toNat) : knownOperation op = false := by
  rcases h with rfl | h
  · rfl
  · exact decide_eq_false fun ⟨_, hle⟩ => absurd h (Nat.not_lt.mpr hle)

/-- The service of a request whose operation code names no operation (R148). -/
theorem refusedUnknown_still {s : State} {k : LaneId} {r : Request} (hn : nextRequest s = some (k, r)) (hu : r.op = 0 ∨ 21 < r.op.toNat) :
    ∃ t, exec .refusedUnknown s = .next t ∧ t.still = (answered k r .refusedUnknown [] { s with pointer := k }).still := by
  change ∃ t, execRefusedUnknown s = _ ∧ _
  refine event_still ?_
  simp only [hn, not_knownOperation hu, Bool.false_eq_true, if_false, respond_eq]
  rfl

/-- Settles O39: the refusals of steps 1 to 3 in their order, each answered and nothing else (R148, R149, R151). -/
theorem requestsAreRefusedWithoutEffect : Obligations.RequestsAreRefusedWithoutEffect := by
  intro s k r hn
  refine ⟨permitted_iff, refusedUnknown_still hn, fun c code write hc ho => ?_⟩
  obtain ⟨body, hbody, hrange⟩ := exec_service hc
  refine ⟨fun hr => ?_, fun hr ht ha => ?_⟩
  · have hp : permitted write (s.lane k).settings.rights = false := by
      rcases hr with hr | ⟨hr, rfl⟩ <;> rw [hr] <;> rfl
    rw [hbody]
    exact event_still (serve_not_permitted hn ho hp body)
  · have hb : body k r.args { s with pointer := k } = refuse .refusedRange { s with pointer := k } := by
      rw [ha]
      exact hrange ht k _
    exact service_still (hbody s) ⟨hn, ho, (permitted_iff write _).mpr hr⟩ hb

end Sys2Proof.Machine

/-!
# Operands out of range

Each operand form of the management requests fails on a payload too short for it and on a value outside its range (R199, chapter 11.5), and the operation is
then refused REFUSED_RANGE (R148).
-/

namespace Sys2Proof.Machine

-- One theorem is elaborated after the other: many at once need too many threads.
set_option Elab.async false

/-! ### Lists of operands -/

/-- A list of operands passes as a whole exactly when each of them passes. -/
theorem mapM_eq_some_iff {α β : Type} {f : α → Option β} {l : List α} {m : List β} : l.mapM f = some m ↔ l.map f = m.map some := by
  induction l generalizing m with
  | nil => cases m <;> simp
  | cons a rest ih =>
    rw [List.mapM_cons, List.map_cons]
    cases ha : f a with
    | none => cases m <;> simp
    | some b => cases m <;> simp [Option.bind_eq_some_iff, ← ih, and_comm]

theorem mapM_eq_none {α β : Type} {f : α → Option β} {l : List α} {a : α} (ha : a ∈ l) (hf : f a = none) : l.mapM f = none := by
  refine Option.eq_none_iff_forall_ne_some.mpr fun m hm => ?_
  have hmem : none ∈ m.map some := by
    rw [← mapM_eq_some_iff.mp hm, ← hf]
    exact List.mem_map_of_mem ha
  simp at hmem

theorem mapM_map_eq_some {α β : Type} {f : α → Option β} {code : β → α} (h : ∀ b, f (code b) = some b) (m : List β) :
    (m.map code).mapM f = some m := by
  rw [mapM_eq_some_iff, List.map_map]
  exact List.map_congr_left fun b _ => h b

/-! ### Single values (R199) -/

section values
variable {a b c d e : Byte}

theorem below_none {n : Nat} (h : n ≤ b.toNat) : below n b = none := dif_neg (Nat.not_lt.mpr h)

theorem entryOperand_none (h : 512 ≤ a.toNat * 256 + b.toNat) : entryOperand a b = none := dif_neg (Nat.not_lt.mpr h)

theorem rightsOperand_none (h : 2 < b.toNat) : rightsOperand b = none := by
  unfold rightsOperand
  split
  case h_4 => rfl
  all_goals omega

theorem enabledOperand_none (h : 1 < b.toNat) : enabledOperand b = none := by
  unfold enabledOperand
  split
  case h_3 => rfl
  all_goals omega

theorem maskField_none (h : 2 ≤ b.toNat / 64) : maskField b = none := by
  unfold maskField
  split
  case h_3 => rfl
  all_goals omega

theorem triggerField_none (h : 2 ≤ b.toNat / 16 % 4) : triggerField b = none := by
  unfold triggerField
  split
  case h_3 => rfl
  all_goals omega

theorem kindOperand_none (h : b = 0 ∨ 10 < b.toNat) : kindOperand b = none := by
  unfold kindOperand
  split
  · rfl
  · next hb => exact List.getElem?_eq_none (show 10 ≤ b.toNat - 1 by have := h.resolve_left hb; omega)

theorem settingsOperand_none (h : 2 < a.toNat ∨ 1 < d.toNat ∨ (b ≠ 0 ∧ c ≠ 0 ∧ c.toNat * 10 ≤ b.toNat)) :
    settingsOperand a b c d = none := by
  unfold settingsOperand
  split
  · next r e hr he =>
    rcases h with h | h | h
    · rw [rightsOperand_none h] at hr; cases hr
    · rw [enabledOperand_none h] at he; cases he
    · exact if_pos h
  · rfl

theorem counterOperand_none (h : 2 ≤ a.toNat ∨ (a = 0 ∧ 8 ≤ b.toNat) ∨ (a = 1 ∧ 4 ≤ b.toNat)) : counterOperand a b = none := by
  rcases h with h | ⟨rfl, h⟩ | ⟨rfl, h⟩
  · unfold counterOperand
    split
    case h_3 => rfl
    all_goals omega
  · simp [counterOperand, below_none h]
  · simp [counterOperand, below_none h]

/-! ### Record images (chapter 11.5) -/

theorem imageOperand_none (h : 2 ≤ a.toNat / 64 ∨ 2 ≤ a.toNat / 16 % 4 ∨ 16 ≤ b.toNat) : imageOperand a b c = none := by
  unfold imageOperand
  split
  · next m t g hm ht hg =>
    rcases h with h | h | h
    · rw [maskField_none h] at hm; cases hm
    · rw [triggerField_none h] at ht; cases ht
    · rw [below_none h] at hg; cases hg
  · rfl

theorem slotLane_none {n : Nat} (h : 8 ≤ n) : slotLane n = none := dif_neg (Nat.not_lt.mpr h)

/-- Two slots with one value are one lane twice. -/
theorem slots_nodup {slots : List Nat} {lanes : List LaneId} (h : slots.mapM slotLane = some lanes) (hl : lanes.Nodup) : slots.Nodup := by
  refine List.Nodup.of_map slotLane ?_
  rw [mapM_eq_some_iff.mp h]
  exact hl.map (Option.some_injective _)

theorem groupOperand_none
    (h : 2 ≤ a.toNat / 64 ∨ 8 < a.toNat % 16 ∨ (∃ x ∈ (laneSlots b c d e).take (a.toNat % 16), 8 ≤ x) ∨
      ¬ ((laneSlots b c d e).take (a.toNat % 16)).Nodup) : groupOperand a b c d e = none := by
  unfold groupOperand
  dsimp only
  split
  · next p lanes hp hm =>
    refine if_neg fun ⟨hlen, hnd⟩ => ?_
    rcases h with h | h | ⟨x, hx, h⟩ | h
    · split at hp
      case h_3 => cases hp
      all_goals omega
    · omega
    · rw [mapM_eq_none hx (slotLane_none h)] at hm; cases hm
    · exact h (slots_nodup hm hnd)
  · rfl

end values

/-! ### The operands of an operation: too few bytes -/

section short
variable {args : List Byte}

theorem firstBelow_short {n : Nat} (h : args.length < 1) : firstBelow n args = none := by
  rw [List.length_eq_zero_iff.mp (Nat.lt_one_iff.mp h)]
  rfl

theorem kindsOperand_short (h : args.length < 1) : kindsOperand args = none := by
  rw [List.length_eq_zero_iff.mp (Nat.lt_one_iff.mp h)]
  rfl

theorem too_short_for_two (h : args.length < 2) (a b : Byte) (rest : List Byte) (hargs : args = a :: b :: rest) : False := by
  rw [hargs] at h
  simp only [List.length_cons] at h
  omega

theorem firstEntry_short (h : args.length < 2) : firstEntry args = none := firstEntry.eq_2 args (too_short_for_two h)

theorem portAndNode_short (h : args.length < 2) : portAndNode args = none := portAndNode.eq_2 args (too_short_for_two h)

theorem setPortOperand_short (h : args.length < 2) : setPortOperand args = none := setPortOperand.eq_2 args (too_short_for_two h)

theorem clearCountersOperand_short (h : args.length < 2) : clearCountersOperand args = none := clearCountersOperand.eq_2 args (too_short_for_two h)

theorem too_short_for_five (h : args.length < 5) (a b c d e : Byte) (rest : List Byte) (hargs : args = a :: b :: c :: d :: e :: rest) : False := by
  rw [hargs] at h
  simp only [List.length_cons] at h
  omega

theorem setLaneOperand_short (h : args.length < 5) : setLaneOperand args = none := setLaneOperand.eq_2 args (too_short_for_five h)

theorem stageEntryOperand_short (h : args.length < 5) : stageEntryOperand args = none := stageEntryOperand.eq_2 args (too_short_for_five h)

theorem too_short_for_six (h : args.length < 6) (a b c d e f : Byte) (rest : List Byte) (hargs : args = a :: b :: c :: d :: e :: f :: rest) : False := by
  rw [hargs] at h
  simp only [List.length_cons] at h
  omega

theorem stageGroupOperand_short (h : args.length < 6) : stageGroupOperand args = none := stageGroupOperand.eq_2 args (too_short_for_six h)

end short

/-! ### The operands of an operation: a value out of range -/

section ranges
variable {a b c d e f : Byte} {rest : List Byte}

theorem kindsOperand_none (h : rest.length < a.toNat ∨ ∃ x ∈ rest.take a.toNat, x = 0 ∨ 10 < x.toNat) : kindsOperand (a :: rest) = none := by
  unfold kindsOperand
  dsimp only
  split
  · next hle =>
    obtain ⟨x, hx, h⟩ := h.resolve_left (Nat.not_lt.mpr hle)
    exact mapM_eq_none hx (kindOperand_none h)
  · rfl

theorem portAndNode_none (h : 4 ≤ a.toNat ∨ 64 ≤ b.toNat) : portAndNode (a :: b :: rest) = none := by
  unfold portAndNode
  dsimp only
  split
  · next p n hp hn =>
    rcases h with h | h
    · rw [below_none h] at hp; cases hp
    · rw [below_none h] at hn; cases hn
  · rfl

theorem setPortOperand_none (h : 4 ≤ a.toNat ∨ b = 0) : setPortOperand (a :: b :: rest) = none := by
  unfold setPortOperand
  dsimp only
  split
  · rfl
  · next hb => rw [below_none (h.resolve_right hb)]; rfl

theorem setLaneOperand_none (h : 8 ≤ a.toNat ∨ 2 < b.toNat ∨ 1 < e.toNat ∨ (c ≠ 0 ∧ d ≠ 0 ∧ d.toNat * 10 ≤ c.toNat)) :
    setLaneOperand (a :: b :: c :: d :: e :: rest) = none := by
  unfold setLaneOperand
  dsimp only
  split
  · next j st hj hst =>
    rcases h with h | h
    · rw [below_none h] at hj; cases hj
    · rw [settingsOperand_none h] at hst; cases hst
  · rfl

theorem stageEntryOperand_none
    (h : 512 ≤ a.toNat * 256 + b.toNat ∨ 2 ≤ c.toNat / 64 ∨ 2 ≤ c.toNat / 16 % 4 ∨ 16 ≤ d.toNat) :
    stageEntryOperand (a :: b :: c :: d :: e :: rest) = none := by
  unfold stageEntryOperand
  dsimp only
  split
  · next i img hi himg =>
    rcases h with h | h
    · rw [entryOperand_none h] at hi; cases hi
    · rw [imageOperand_none h] at himg; cases himg
  · rfl

theorem clearCountersOperand_none (h : 2 ≤ a.toNat ∨ (a = 0 ∧ 8 ≤ b.toNat) ∨ (a = 1 ∧ 4 ≤ b.toNat)) :
    clearCountersOperand (a :: b :: rest) = none := counterOperand_none h

theorem firstBelow_none {n : Nat} (h : n ≤ a.toNat) : firstBelow n (a :: rest) = none := below_none h

theorem firstEntry_none (h : 512 ≤ a.toNat * 256 + b.toNat) : firstEntry (a :: b :: rest) = none := entryOperand_none h

theorem stageGroupOperand_none
    (h : 16 ≤ a.toNat ∨ 2 ≤ b.toNat / 64 ∨ 8 < b.toNat % 16 ∨ (∃ x ∈ (laneSlots c d e f).take (b.toNat % 16), 8 ≤ x) ∨
      ¬ ((laneSlots c d e f).take (b.toNat % 16)).Nodup) :
    stageGroupOperand (a :: b :: c :: d :: e :: f :: rest) = none := by
  unfold stageGroupOperand
  dsimp only
  split
  · next g r hg hr =>
    rcases h with h | h
    · rw [below_none h] at hg; cases hg
    · rw [groupOperand_none h] at hr; cases hr
  · rfl

end ranges

/-- An operation whose operand does not pass is refused REFUSED_RANGE (R148). -/
theorem service_out_of_range {s : State} {k : LaneId} {r : Request} {op : Instr} {code : Nat} {write : Bool} {α : Type}
    {operand : List Byte → Option α} {body : LaneId → α → State → Reply}
    (hc : exec op s = event none s (serve code write fun k args => withOperand (operand args) (body k))) (ho : operand r.args = none)
    (h : Serves s k r code write) :
    ∃ t, exec op s = .next t ∧ t.still = (answered k r .refusedRange [] { s with pointer := k }).still :=
  service_still (reply := refuse .refusedRange { s with pointer := k }) hc h (by rw [ho]; rfl)

/-- Settles O40: each operation, with the operands that its payload has not or that are out of range (R148, R199). -/
theorem operandsOutOfRangeAreRefused : Obligations.OperandsOutOfRangeAreRefused := by
  intro s k r w a b c d e f rest refused
  refine ⟨fun h => ?_, fun h => ?_, fun h => ?_, fun h => ?_, fun ha => ?_, fun ha => ?_, fun ha => ?_, fun ha => ?_⟩
  · have hn : ∀ n, firstBelow n r.args = none := fun _ => firstBelow_short h
    exact ⟨service_out_of_range rfl (hn 16), service_out_of_range rfl (hn 8), service_out_of_range rfl (hn 4), service_out_of_range rfl (hn 8),
      service_out_of_range rfl (kindsOperand_short h)⟩
  · exact ⟨service_out_of_range rfl (firstEntry_short h), service_out_of_range rfl (portAndNode_short h),
      service_out_of_range rfl (setPortOperand_short h), service_out_of_range rfl (clearCountersOperand_short h),
      service_out_of_range rfl (firstEntry_short h)⟩
  · exact ⟨service_out_of_range rfl (setLaneOperand_short h), service_out_of_range rfl (stageEntryOperand_short h)⟩
  · exact service_out_of_range rfl (stageGroupOperand_short h)
  · exact ⟨fun h => service_out_of_range rfl (ha ▸ firstBelow_none h),
      fun h => ⟨service_out_of_range rfl (ha ▸ firstBelow_none h), service_out_of_range rfl (ha ▸ firstBelow_none h)⟩,
      fun h => service_out_of_range rfl (ha ▸ firstBelow_none h), fun h => service_out_of_range rfl (ha ▸ kindsOperand_none h)⟩
  · exact ⟨fun h => ⟨service_out_of_range rfl (ha ▸ firstEntry_none h), service_out_of_range rfl (ha ▸ firstEntry_none h)⟩,
      fun h => service_out_of_range rfl (ha ▸ portAndNode_none h), fun h => service_out_of_range rfl (ha ▸ setPortOperand_none h),
      fun h => service_out_of_range rfl (ha ▸ clearCountersOperand_none h)⟩
  · exact ⟨fun h => service_out_of_range rfl (ha ▸ setLaneOperand_none h), fun h => service_out_of_range rfl (ha ▸ stageEntryOperand_none h)⟩
  · exact fun h => service_out_of_range rfl (ha ▸ stageGroupOperand_none h)

end Sys2Proof.Machine

/-!
# The other settings

SET_PORT, SET_MANAGER, CLEAR_COUNTERS, CLEAR_NOTICES, START_SWEEP and RESTART: their operands as a host sends them, and what each writes (R158 to R161, R186, R190).
-/

namespace Sys2Proof.Machine

-- One theorem is elaborated after the other: many at once need too many threads.
set_option Elab.async false

/-! ### The operands -/

section operands
variable (rest : List Byte)

theorem setPortOperand_of (p : Port) {q : Byte} (hq : q ≠ 0) : setPortOperand (oneByte p.val :: q :: rest) = some (p, q) := by
  simp only [setPortOperand, if_neg hq, below_oneByte (n := 4) (by omega), Option.map_some]

theorem clearCountersOperand_lane (j : LaneId) : clearCountersOperand (0 :: oneByte j.val :: rest) = some (.lane j) :=
  congrArg (Option.map CounterTarget.lane) (below_oneByte (n := 8) (by omega) j)

theorem clearCountersOperand_port (p : Port) : clearCountersOperand (1 :: oneByte p.val :: rest) = some (.port p) :=
  congrArg (Option.map CounterTarget.port) (below_oneByte (n := 4) (by omega) p)

theorem kindOperand_number (x : NoticeKind) : kindOperand (oneByte x.number) = some x := by cases x <;> rfl

/-- A number of kinds and then their kind numbers name those kinds (R186, R199). -/
theorem kindsOperand_of {kinds : List NoticeKind} (h : kinds.length < 256) :
    kindsOperand (oneByte kinds.length :: (kinds.map fun x => oneByte x.number) ++ rest) = some kinds := by
  have hn : (oneByte kinds.length).toNat = (kinds.map fun x => oneByte x.number).length := by
    rw [oneByte, BitVec.toNat_ofNat, List.length_map]
    omega
  rw [List.cons_append, kindsOperand, hn, if_pos (by rw [List.length_append]; omega), List.take_left]
  exact mapM_map_eq_some kindOperand_number kinds

end operands

/-! ### What is written -/

section writes
variable {s : State}

theorem firstUnsent_isSome : s.firstUnsent.isSome = true ↔ ∃ kind, (s.notice kind).isSet = true ∧ (s.notice kind).sent = false := by
  simp [State.firstUnsent, NoticeRecord.unsent, mem_noticeKinds]

/-- A new manager lane, with nothing unsent (R159). -/
theorem writeManager_sent {j : LaneId} (hj : j ≠ s.manager) (h : ∀ kind, (s.notice kind).isSet = false ∨ (s.notice kind).sent = true) :
    writeManager j s = { s with manager := j } := by
  have hf : ¬ ({ s with manager := j } : State).firstUnsent.isSome = true := fun hf => by
    obtain ⟨kind, hset, hsent⟩ := firstUnsent_isSome.mp hf
    rcases h kind with h | h
    · exact Bool.false_ne_true (h.symm.trans hset)
    · exact Bool.false_ne_true (hsent.symm.trans h)
  rw [writeManager, if_neg hj]
  exact if_neg hf

/-- A new manager lane, with a kind unsent, which is work to send on it (R159, R183). -/
theorem writeManager_unsent {j : LaneId} (hj : j ≠ s.manager) (h : ∃ kind, (s.notice kind).isSet = true ∧ (s.notice kind).sent = false) :
    writeManager j s = { s with manager := j }.workToSend j := by
  have hf : ({ s with manager := j } : State).firstUnsent.isSome = true := firstUnsent_isSome.mpr h
  rw [writeManager, if_neg hj]
  exact if_pos hf

theorem clearKinds_notice (kinds : List NoticeKind) (s : State) (x : NoticeKind) :
    (clearKinds kinds s).notice x = if x ∈ kinds then .clear else s.notice x := by
  induction kinds generalizing s with
  | nil => rfl
  | cons a rest ih =>
    rw [clearKinds, List.foldl_cons, ← clearKinds, ih, notice_setNotice]
    by_cases hx : x ∈ rest <;> simp [hx]

/-- The clearing of notices writes the notice table and nothing else (R186). -/
theorem clearKinds_frame (kinds : List NoticeKind) (s : State) : clearKinds kinds s = { s with notices := (clearKinds kinds s).notices } := by
  induction kinds generalizing s with
  | nil => rfl
  | cons a rest ih =>
    rw [clearKinds, List.foldl_cons, ← clearKinds, ih]
    rfl

/-- An answer and its still state take another notice table as they stand. -/
theorem answered_still_with_notices (k : LaneId) (r : Request) (d : List Byte) (s : State) (n : Vector NoticeRecord 10) :
    { (answered k r .done d { s with notices := n }).still with notices := s.notices } = (answered k r .done d s).still := rfl

end writes

/-- The service of CLEAR_NOTICES: the answer, and the kinds cleared (R186). -/
theorem clearNotices_next {s : State} {k : LaneId} {r : Request} (h : Serves s k r 0x11 true) {kinds : List NoticeKind}
    (ho : kindsOperand r.args = some kinds) :
    exec .clearNotices s = .next (settle none s (answered k r .done
      ((noticeKinds.filter fun x => decide (x ∈ kinds)).flatMap fun x => noticeBytes (s.notice x)) (clearKinds kinds { s with pointer := k }))) := by
  change execClearNotices s = _
  rw [execClearNotices, event_next, serve_of_serves h, withOperand_some ho]
  rfl

/-- Settles O46: each operation with its operands in range, as one service (R158 to R161, R186, R190). -/
theorem otherSettingsAreWritten : Obligations.OtherSettingsAreWritten := by
  intro s k r rest b
  refine ⟨fun q p h ha hq => ?port, fun j h ha hj => ⟨fun hn => ?sent, fun hn => ?unsent⟩, fun h ha => ?same, fun j h ha => ?laneCounters,
    fun p h ha => ?portCounters, fun kinds h hl ha => ⟨_, clearNotices_next h (ha ▸ kindsOperand_of rest hl), fun x => ?notice, ?reported⟩,
    fun h => ⟨fun hr => ?running, fun hr => ?starts⟩, fun h => ?restart⟩
  case port => exact service_still (c := .setPort) rfl h (withOperand_some (ha ▸ setPortOperand_of rest p hq) _ _)
  case sent =>
    exact service_still (c := .setManager) rfl h ((withOperand_some (ha ▸ firstBelow_oneByte (by omega) j rest) _ _).trans
      (congrArg (answer []) (writeManager_sent hj hn)))
  case unsent =>
    exact service_still (c := .setManager) rfl h ((withOperand_some (ha ▸ firstBelow_oneByte (by omega) j rest) _ _).trans
      (congrArg (answer []) (writeManager_unsent hj hn)))
  case same =>
    exact service_still (c := .setManager) rfl h ((withOperand_some (ha ▸ firstBelow_oneByte (by omega) s.manager rest) _ _).trans
      (congrArg (answer []) (if_pos rfl)))
  case laneCounters => exact service_still (c := .clearCounters) rfl h (withOperand_some (ha ▸ clearCountersOperand_lane rest j) _ _)
  case portCounters => exact service_still (c := .clearCounters) rfl h (withOperand_some (ha ▸ clearCountersOperand_port rest p) _ _)
  case notice => rw [settle_notice]; exact clearKinds_notice kinds b x
  case reported =>
    rw [settle_still, clearKinds_frame]
    exact answered_still_with_notices k r _ b _
  case running => exact service_still (c := .startSweep) rfl h (if_pos hr)
  case starts => exact service_still (c := .startSweep) rfl h (if_neg (by rw [hr]; nofun))
  case restart => exact service_still (c := .restart) rfl h rfl

end Sys2Proof.Machine

/-!
# The staging list

What staging a record and DISCARD do to the list, its owner and the read positions (R165, R169, R171), with the target of a record as a value: two records
are for one target when their targets are equal.
-/

namespace Sys2Proof.Machine

-- One theorem is elaborated after the other: many at once need too many threads.
set_option Elab.async false

/-! ### Targets -/

/-- The target of a staged record: an entry, or a group (R165). -/
def StagedRecord.target : StagedRecord → EntryIdx ⊕ GroupId
  | .entry i _ => .inl i
  | .group g _ => .inr g

theorem sameTarget_eq (x y : StagedRecord) : sameTarget x y = decide (x.target = y.target) := by
  cases x <;> cases y <;> simp [sameTarget, StagedRecord.target]

theorem target_eq_iff (x y : StagedRecord) : x.target = y.target ↔
    (∃ i v w, x = .entry i v ∧ y = .entry i w) ∨ (∃ g v w, x = .group g v ∧ y = .group g w) := by
  cases x <;> cases y <;> simp [StagedRecord.target, eq_comm]

theorem sameTarget_iff (x y : StagedRecord) : sameTarget x y = true ↔
    (∃ i v w, x = .entry i v ∧ y = .entry i w) ∨ (∃ g v w, x = .group g v ∧ y = .group g w) := by
  rw [sameTarget_eq, decide_eq_true_iff, target_eq_iff]

/-- A record's target is on the list, with a first record for it, or is not on the list. -/
theorem target_staged_or_new (r : StagedRecord) (l : List StagedRecord) :
    (∃ front old back, l = front ++ old :: back ∧ sameTarget r old = true ∧ ∀ x ∈ front, sameTarget r x = false) ∨
    ∀ x ∈ l, sameTarget r x = false := by
  cases h : l.find? (sameTarget r) with
  | none => exact .inr fun x hx => Bool.not_eq_true _ ▸ List.find?_eq_none.mp h x hx
  | some old =>
    obtain ⟨hold, front, back, hl, hfront⟩ := List.find?_eq_some_iff_append.mp h
    exact .inl ⟨front, old, back, hl, hold, fun x hx => Bool.not_eq_true' _ ▸ hfront x hx⟩

/-! ### Staging and discarding, one equation per case -/

section operations
variable {s : State} {k j : LaneId} {r old : StagedRecord} {front back : List StagedRecord}

theorem ownedByOther_other (h : s.owner = some j) (hj : j ≠ k) : ownedByOther s k = true := by
  rw [ownedByOther, h]
  exact decide_eq_true hj

theorem ownedByOther_own (h : s.owner = none ∨ s.owner = some k) : ownedByOther s k = false := by
  rcases h with h | h <;> simp [ownedByOther, h]

/-- The list belongs to another lane, or to none or to this lane. -/
theorem owner_cases (s : State) (k : LaneId) : (∃ j, s.owner = some j ∧ j ≠ k) ∨ (s.owner = none ∨ s.owner = some k) := by
  cases h : s.owner with
  | none => exact .inr (.inl rfl)
  | some j =>
    by_cases hj : j = k
    · exact .inr (.inr (congrArg some hj))
    · exact .inl ⟨j, rfl, hj⟩

theorem stage_owned (h : s.owner = some j) (hj : j ≠ k) : stage k r s = refuse .refusedStagingOwned s :=
  if_pos (ownedByOther_other h hj)

/-- A record whose target is on the list takes the place of the one that is there (R169). -/
theorem stage_replaces (ho : s.owner = none ∨ s.owner = some k) (hs : s.staging = front ++ old :: back) (hold : sameTarget r old = true)
    (hfront : ∀ x ∈ front, sameTarget r x = false) :
    stage k r s = answer [oneByte front.length, oneByte s.staging.length] { rewindReaders s with staging := front ++ r :: back } := by
  have hidx : s.staging.findIdx? (sameTarget r) = some front.length := by
    simp [hs, List.findIdx?_append, List.findIdx?_eq_none_iff.mpr hfront, List.findIdx?_cons, hold]
  have hset : s.staging.set front.length r = front ++ r :: back := by simp [hs]
  simp only [stage, ownedByOther_own ho, hidx, hset, Bool.false_eq_true, if_false]

theorem findIdx?_new (h : ∀ x ∈ s.staging, sameTarget r x = false) : s.staging.findIdx? (sameTarget r) = none :=
  List.findIdx?_eq_none_iff.mpr h

theorem stage_full (ho : s.owner = none ∨ s.owner = some k) (hnew : ∀ x ∈ s.staging, sameTarget r x = false) (hfull : 16 ≤ s.staging.length) :
    stage k r s = refuse .refusedStagingFull s := by
  simp only [stage, ownedByOther_own ho, findIdx?_new hnew, Bool.false_eq_true, if_false]
  exact if_pos hfull

/-- A record with a target of its own goes to the end of the list, and its lane becomes owner of a list that was empty (R169). -/
theorem stage_appends (ho : s.owner = none ∨ s.owner = some k) (hnew : ∀ x ∈ s.staging, sameTarget r x = false) (hroom : s.staging.length < 16) :
    stage k r s = answer [oneByte s.staging.length, oneByte (s.staging.length + 1)]
      { rewindReaders s with staging := s.staging ++ [r], owner := if s.staging = [] then some k else s.owner } := by
  simp only [stage, ownedByOther_own ho, findIdx?_new hnew, Bool.false_eq_true, if_false, List.isEmpty_iff]
  exact if_neg (Nat.not_le.mpr hroom)

theorem discardStaging_empty (h : s.staging = []) : discardStaging k s = refuse .refusedNoStaging s := if_pos (List.isEmpty_iff.mpr h)

theorem discardStaging_owned (hne : s.staging ≠ []) (h : s.owner = some j) (hj : j ≠ k) :
    discardStaging k s = refuse .refusedStagingOwned s := by
  rw [discardStaging, if_neg (mt List.isEmpty_iff.mp hne)]
  exact if_pos (ownedByOther_other h hj)

theorem discardStaging_own (hne : s.staging ≠ []) (h : s.owner = none ∨ s.owner = some k) :
    discardStaging k s = answer [oneByte s.staging.length] (clearStaging s) := by
  rw [discardStaging, if_neg (mt List.isEmpty_iff.mp hne), ownedByOther_own h]
  rfl

end operations

/-- The service of either staging operation is the record's meeting the list (R167 to R169). -/
theorem staged_still {s : State} {k : LaneId} {r : Request} {c : Instr} {x : StagedRecord}
    (hc : (c = .stageEntry ∧ Serves s k r 0x0A true ∧ stageEntryOperand r.args = some x) ∨
      (c = .stageGroup ∧ Serves s k r 0x0B true ∧ stageGroupOperand r.args = some x))
    {reply : Reply} (h : stage k x { s with pointer := k } = reply) :
    ∃ t, exec c s = .next t ∧ t.still = (answered k r reply.outcome reply.data reply.after).still := by
  rcases hc with ⟨rfl, hs, ho⟩ | ⟨rfl, hs, ho⟩
  · exact service_still rfl hs ((withOperand_some ho _ _).trans h)
  · exact service_still rfl hs ((withOperand_some ho _ _).trans h)

/-- Settles O42: a record by the owner, by its target and by the room on the list, and DISCARD by the list and its owner (R169 to R171). -/
theorem stagingListOperations : Obligations.StagingListOperations := by
  intro s k r x b rewound
  refine ⟨sameTarget_iff, fun c hc => ⟨fun j ho hj => ?owned, fun ho => ⟨fun front old back hs hold hfront => ?replaces, fun hnew hfull => ?full,
    fun hnew hroom => ?appends⟩⟩, fun h => ⟨fun he => ?empty, fun j hne ho hj => ?discardOwned, fun hne ho => ?discards⟩⟩
  case owned => exact staged_still hc (stage_owned (s := b) ho hj)
  case replaces => exact staged_still hc (stage_replaces (s := b) ho hs hold hfront)
  case full => exact staged_still hc (stage_full (s := b) ho hnew hfull)
  case appends => exact staged_still hc (stage_appends (s := b) ho hnew hroom)
  case empty => exact service_still (c := .discard) rfl h (discardStaging_empty (s := b) he)
  case discardOwned => exact service_still (c := .discard) rfl h (discardStaging_owned (s := b) hne ho hj)
  case discards => exact service_still (c := .discard) rfl h (discardStaging_own (s := b) hne (.inr ho))

end Sys2Proof.Machine

/-!
# The law of the staging list

R165 with the targets as values, and that every change an event is made of keeps it: most leave the list and its owner as they are, a lane loss, DISCARD,
COMMIT and the resets empty it, and a record staged keeps the targets apart.
-/

namespace Sys2Proof.Machine

-- One theorem is elaborated after the other: many at once need too many threads.
set_option Elab.async false

/-! ### The law -/

/-- The law of the staging list, as a bound, distinct targets, and an owner exactly of a list that is not empty (R165). -/
theorem stagingSound_iff (s : State) : StagingSound s ↔
    s.staging.length ≤ 16 ∧ (s.staging.map StagedRecord.target).Nodup ∧ (s.owner.isSome = true ↔ s.staging ≠ []) := by
  have htargets : (s.staging.map StagedRecord.target).Nodup ↔
      s.staging.Pairwise (fun a b => ¬ ∃ i c d, (a = .entry i c ∧ b = .entry i d)) ∧
      s.staging.Pairwise (fun a b => ¬ ∃ g c d, (a = .group g c ∧ b = .group g d)) := by
    rw [List.Nodup, List.pairwise_map, ← List.pairwise_and_iff]
    refine iff_of_eq (congrArg (s.staging.Pairwise ·) ?_)
    funext a b
    rw [ne_eq, target_eq_iff, not_or]
  unfold StagingSound
  rw [htargets, and_assoc]
  rfl

/-- The law of the staging list is kept. -/
def KeepsStaging (s t : State) : Prop := StagingSound s → StagingSound t

section keeps
variable {s t u : State}

theorem KeepsStaging.refl (s : State) : KeepsStaging s s := id

theorem KeepsStaging.trans (h : KeepsStaging s t) (h' : KeepsStaging t u) : KeepsStaging s u := fun hs => h' (h hs)

/-- A state with the staging list and the owner of another. -/
theorem KeepsStaging.of (hs : t.staging = s.staging := by exact rfl) (ho : t.owner = s.owner := by exact rfl) : KeepsStaging s t := by
  unfold KeepsStaging StagingSound
  rw [hs, ho]
  exact id

/-- An empty list without an owner. -/
theorem KeepsStaging.emptied (hs : t.staging = [] := by exact rfl) (ho : t.owner = none := by exact rfl) : KeepsStaging s t := fun _ => by
  rw [stagingSound_iff, hs, ho]
  simp

theorem DeliveryFrame.keepsStaging (h : DeliveryFrame s t) : KeepsStaging s t := by
  rw [h]
  exact .of

theorem AbsenceFrame.keepsStaging (h : AbsenceFrame s t) : KeepsStaging s t := by
  rw [h]
  exact .of

theorem KeepsStaging.foldl {α : Type} {f : State → α → State} (hf : ∀ s a, KeepsStaging s (f s a)) (l : List α) (s : State) :
    KeepsStaging s (l.foldl f s) := by
  induction l generalizing s with
  | nil => exact .refl s
  | cons a rest ih => exact (hf s a).trans (ih _)

/-! ### The operations on the list -/

/-- A record in the place of one with the same target: the list keeps its length and its targets. -/
theorem KeepsStaging.replaced {front back : List StagedRecord} {r old : StagedRecord} (hs : s.staging = front ++ old :: back)
    (hold : r.target = old.target) : KeepsStaging s { rewindReaders s with staging := front ++ r :: back } := by
  intro h
  rw [stagingSound_iff, hs] at h
  obtain ⟨hlen, hnodup, howner⟩ := h
  rw [stagingSound_iff]
  refine ⟨by simpa using hlen, ?_, howner.trans (by simp)⟩
  simpa [hold] using hnodup

/-- A record with a new target, on a list with room: its lane owns the list then, where nobody did. -/
theorem KeepsStaging.appended {r : StagedRecord} (k : LaneId) (hnew : ∀ x ∈ s.staging, r.target ≠ x.target) (hroom : s.staging.length < 16) :
    KeepsStaging s { rewindReaders s with staging := s.staging ++ [r], owner := if s.staging = [] then some k else s.owner } := by
  intro h
  obtain ⟨-, hnodup, howner⟩ := (stagingSound_iff s).mp h
  rw [stagingSound_iff]
  refine ⟨by simpa using hroom, ?_, ?_⟩
  · rw [List.map_append]
    refine hnodup.append (List.nodup_singleton _) ?_
    simpa using fun x hx => (hnew x hx).symm
  · by_cases he : s.staging = []
    · simp [he]
    · simp [he, howner]

/-- A record staged, or refused (R165, R169). -/
theorem KeepsStaging.stage (k : LaneId) (r : StagedRecord) (s : State) : KeepsStaging s (stage k r s).after := by
  have htarget : ∀ {x b}, sameTarget r x = b → decide (r.target = x.target) = b := fun h => by rwa [sameTarget_eq] at h
  rcases owner_cases s k with ⟨j, hj, hne⟩ | ho
  · rw [stage_owned hj hne]
    exact .refl s
  rcases target_staged_or_new r s.staging with ⟨front, old, back, hs, hold, hfront⟩ | hnew
  · rw [stage_replaces ho hs hold hfront]
    exact .replaced hs (of_decide_eq_true (htarget hold))
  · by_cases hroom : s.staging.length < 16
    · rw [stage_appends ho hnew hroom]
      exact .appended k (fun x hx => of_decide_eq_false (htarget (hnew x hx))) hroom
    · rw [stage_full ho hnew (Nat.le_of_not_lt hroom)]
      exact .refl s

theorem KeepsStaging.discardStaging (k : LaneId) (s : State) : KeepsStaging s (discardStaging k s).after := by
  unfold Machine.discardStaging
  split
  · exact .refl s
  · split
    · exact .refl s
    · exact .emptied

theorem KeepsStaging.commitStaging (k : LaneId) (s : State) : KeepsStaging s (commitStaging k s).after := by
  unfold Machine.commitStaging
  split
  · exact .refl s
  · split
    · exact .refl s
    · split
      · exact .refl s
      · exact .emptied

/-- A lane that is lost takes the staging list it owns with it, and leaves another lane's (R126). -/
theorem KeepsStaging.laneLoss (k : LaneId) (cause : LossCause) (s : State) : KeepsStaging s (laneLoss k cause s) := by
  obtain ⟨hown, hother, -⟩ := laneLoss_management k cause s
  by_cases ho : s.owner = some k
  · exact .emptied (hown ho).2 (hown ho).1
  · exact .of (hother ho).2 (hother ho).1

/-! ### Event intake and node presence -/

theorem KeepsStaging.raiseNotice (n : NoticeKind) (d : Nat) (s : State) : KeepsStaging s (raiseNotice n d s) :=
  (Delivers.raiseNotice n d s).frame.keepsStaging

theorem KeepsStaging.raiseEffect (i : EntryIdx) (n : Nat) (s : State) : KeepsStaging s (raiseEffect i n s) :=
  (Takes.raiseEffect i n s).frame.keepsStaging

theorem KeepsStaging.deassert (i : EntryIdx) (s : State) : KeepsStaging s (deassert i s) := (Takes.deassert i s).frame.keepsStaging

theorem KeepsStaging.knownRaise (p : Port) (i : EntryIdx) (c : RaiseCount) (diff : Nat) (s : State) : KeepsStaging s (knownRaise p i c diff s) :=
  KeepsStaging.trans .of (.raiseEffect i diff _)

theorem KeepsStaging.knownDrop (p : Port) (i : EntryIdx) (c : RaiseCount) (diff : Nat) (s : State) : KeepsStaging s (knownDrop p i c diff s) := by
  cases ht : (s.entry i).workTrigger with
  | edge =>
    rw [knownDrop_edge ht]
    exact (KeepsStaging.trans .of (Takes.edgeRaise i diff _).frame.keepsStaging).trans (.deassert i _)
  | level =>
    rw [knownDrop_level ht]
    exact KeepsStaging.trans .of (.deassert i _)

theorem KeepsStaging.reconcileRaise (p : Port) (i : EntryIdx) (c : RaiseCount) (s : State) : KeepsStaging s (reconcileRaise p i c s) := by
  unfold Machine.reconcileRaise
  split
  · exact KeepsStaging.trans .of (.raiseEffect i 1 _)
  · split
    · exact .of
    · exact .knownRaise p i c _ s

theorem KeepsStaging.reconcileDrop (p : Port) (i : EntryIdx) (c : RaiseCount) (s : State) : KeepsStaging s (reconcileDrop p i c s) := by
  unfold Machine.reconcileDrop
  split
  · exact KeepsStaging.trans .of (.deassert i _)
  · split
    · split
      · exact .deassert i s
      · exact .of
    · exact .knownDrop p i c _ s

theorem KeepsStaging.adoptPresent (i : EntryIdx) (v : Bool) (c : RaiseCount) (s : State) : KeepsStaging s (adoptPresent i v c s) := by
  unfold Machine.adoptPresent
  dsimp only
  split
  · split
    · exact .of
    · exact KeepsStaging.trans .of (Takes.levelAssert i _).frame.keepsStaging
  · exact .of

theorem KeepsStaging.reconcilePresent (p : Port) (i : EntryIdx) (v : Bool) (c : RaiseCount) (s : State) :
    KeepsStaging s (reconcilePresent p i v c s) := by
  unfold Machine.reconcilePresent
  split
  · exact .adoptPresent i v c s
  · split
    · split
      · exact .refl s
      · exact .deassert i s
    · split
      · exact .knownRaise p i c _ s
      · exact .knownDrop p i c _ s

theorem KeepsStaging.heard (p : Port) (n : Node) (s : State) : KeepsStaging s (heard p n s) := by
  unfold Machine.heard
  dsimp only
  split
  · exact KeepsStaging.trans .of (.raiseNotice _ _ _)
  · exact KeepsStaging.trans .of (.raiseNotice _ _ _)
  all_goals exact .of

/-- A frame that is received is accepted, and then reconciled (R31). -/
theorem KeepsStaging.received (p : Port) (n : Node) {f : State → State} (hf : ∀ s, KeepsStaging s (f s)) (s : State) :
    KeepsStaging s (if receives s p then accepted p n f s else s) := by
  split
  · exact (KeepsStaging.trans .of (.heard p n _)).trans (hf _)
  · exact .refl s

theorem KeepsStaging.nodeAbsence (p : Port) (n : Node) (s : State) : KeepsStaging s (nodeAbsence p n s) :=
  KeepsStaging.trans (t := absentNode p n s) .of (nodeAbsence_frame p n s).keepsStaging

theorem KeepsStaging.portGain (p : Port) (s : State) : KeepsStaging s (portGain p s) := KeepsStaging.trans .of (.raiseNotice _ _ _)

/-! ### Lanes -/

theorem KeepsStaging.hostFrame (k : LaneId) {take : State → State} (h : ∀ s, KeepsStaging s (take s)) (s : State) :
    KeepsStaging s (hostFrame k take s) := by
  unfold Machine.hostFrame
  split
  · refine KeepsStaging.trans (t := frameWakes k s) ?_ (h _)
    rw [frameWakes_frame]
    exact .of
  · exact .refl s

theorem KeepsStaging.takeRetire (k : LaneId) (v : Byte) (s : State) : KeepsStaging s (takeRetire k v s) := by
  unfold Machine.takeRetire
  dsimp only
  split
  · exact KeepsStaging.trans .of (.raiseNotice _ _ _)
  · exact KeepsStaging.trans .of (Releases.releaseAll _ _).frame.keepsStaging

theorem KeepsStaging.takeCredit (k : LaneId) (c : Byte) (s : State) : KeepsStaging s (takeCredit k c s) := by
  unfold Machine.takeCredit
  dsimp only
  split
  · exact .refl s
  · split
    · exact .of
    · exact KeepsStaging.trans .of (.raiseNotice _ _ _)

theorem KeepsStaging.takeRequest (k : LaneId) (payload : List Byte) (s : State) : KeepsStaging s (takeRequest k payload s) := by
  unfold Machine.takeRequest
  split
  · split
    · exact .of
    · split <;> exact .of
  · exact .of

theorem KeepsStaging.helloDown (k : LaneId) (limit : Byte) (s : State) : KeepsStaging s (helloDown k limit s) :=
  (helloDown_frame k limit s).keepsStaging

theorem KeepsStaging.sendHead (k : LaneId) (item : Item) (rest : List Item) (s : State) : KeepsStaging s (sendHead k item rest s) := by
  rw [sendHead_eq]
  exact (KeepsStaging.trans (t := sentItem k item rest s) .of (Delivers.promote k _).frame.keepsStaging).trans .of

/-! ### The operations of management and the Table Sweep -/

theorem KeepsStaging.withOperand {α : Type} (o : Option α) {body : α → State → Reply} (h : ∀ a s, KeepsStaging s (body a s).after) (s : State) :
    KeepsStaging s (withOperand o body s).after := by
  cases o with
  | none => exact .refl s
  | some a => exact h a s

theorem KeepsStaging.writeSettings (j : LaneId) (st : LaneSettings) (s : State) : KeepsStaging s (writeSettings j st s) := by
  unfold Machine.writeSettings
  dsimp only
  split
  · split
    · exact KeepsStaging.trans .of (.laneLoss j _ _)
    · exact .of
  all_goals exact .of

theorem KeepsStaging.setLaneBody (k : LaneId) (a : LaneId × LaneSettings) (s : State) : KeepsStaging s (setLaneBody k a s).after := by
  unfold Machine.setLaneBody
  split
  · exact .refl s
  · split
    · exact .refl s
    · exact .writeSettings a.1 a.2 s

theorem KeepsStaging.writeManager (k : LaneId) (s : State) : KeepsStaging s (writeManager k s) := by
  unfold Machine.writeManager
  dsimp only
  split
  · exact .refl s
  · split <;> exact .of

theorem KeepsStaging.clearKinds (kinds : List NoticeKind) (s : State) : KeepsStaging s (clearKinds kinds s) := .foldl (fun _ _ => .of) kinds s

theorem KeepsStaging.zeroCounters (target : CounterTarget) (s : State) : KeepsStaging s (zeroCounters target s) := by
  cases target <;> exact .of

theorem KeepsStaging.forceRetireBody (i : EntryIdx) (s : State) : KeepsStaging s (forceRetireBody i s).after := by
  unfold Machine.forceRetireBody
  split
  · exact ((Takes.unbind i s).trans (.settleRelease i _)).frame.keepsStaging
  · exact .refl s

theorem KeepsStaging.startSweepBody (s : State) : KeepsStaging s (startSweepBody s).after := by
  unfold Machine.startSweepBody
  split <;> exact .of

theorem KeepsStaging.visitEntry (i : EntryIdx) (s : State) : KeepsStaging s (visitEntry i s) := by
  unfold Machine.visitEntry
  split
  · exact .refl s
  · exact (Delivers.quarantineFound i s).frame.keepsStaging.trans .of

theorem KeepsStaging.advanceSweep (s : State) : KeepsStaging s (advanceSweep s) := by
  unfold Machine.advanceSweep
  dsimp only
  split
  · exact .of
  · exact KeepsStaging.trans .of (.raiseNotice _ _ _)

/-- The power-on reset empties the list, and the links it then detects leave it so (R165, R201). -/
theorem KeepsStaging.powerOn (ports : List Port) (lanes wakes : List LaneId) (s : State) :
    KeepsStaging s (detectPorts ports (detectLanes lanes wakes { State.reset with pending := s.pending })) := by
  refine KeepsStaging.trans (t := detectLanes lanes wakes { State.reset with pending := s.pending }) .emptied (.foldl (fun u p => ?_) ports _)
  split
  · exact .refl u
  · exact .portGain p u

/-! ### Every command, and every step -/

/-- An event whose effect keeps the law. -/
theorem event_keepsStaging {c : Option LaneId} {f : State → State} (h : KeepsStaging s (f s)) :
    ∃ t, event c s f = .next t ∧ KeepsStaging s t := ⟨_, event_next c s f, h.trans .of⟩

/-- The service of an operation that keeps the law, as an event. -/
theorem service_keepsStaging {code : Nat} {write : Bool} {body : LaneId → List Byte → State → Reply}
    (h : ∀ k args s, KeepsStaging s (body k args s).after) : ∃ t, event none s (serve code write body) = .next t ∧ KeepsStaging s t := by
  refine event_keepsStaging ?_
  rcases serve_cases code write body s with ⟨e, -⟩ | ⟨k, r, -, -, ⟨-, e⟩ | ⟨-, e⟩⟩ <;> rw [e]
  · exact .refl s
  · exact .of
  · exact (KeepsStaging.trans .of (h k r.args { s with pointer := k })).trans .of

theorem portLinkLoss_keepsStaging (p : Port) (s : State) : ∃ t, execPortLinkLoss p s = .next t ∧ KeepsStaging s t := by
  refine event_keepsStaging ?_
  split
  · exact (portLoss_frame p s).keepsStaging
  · exact .refl s

theorem portLinkGained_keepsStaging (p : Port) (s : State) : ∃ t, execPortLinkGained p s = .next t ∧ KeepsStaging s t := by
  refine event_keepsStaging ?_
  split
  · exact .refl s
  · exact .portGain p s

theorem quietTimerExpiry_keepsStaging (p : Port) (n : Node) (s : State) : ∃ t, execQuietTimerExpiry p n s = .next t ∧ KeepsStaging s t := by
  refine event_keepsStaging ?_
  split
  · split
    · exact .of
    · exact .nodeAbsence p n s
    all_goals exact .of
  · exact .refl s

theorem hello_keepsStaging (k : LaneId) (limit : Byte) (s : State) : ∃ t, execHello k limit s = .next t ∧ KeepsStaging s t := by
  refine event_keepsStaging ?_
  split
  · split
    · exact (KeepsStaging.laneLoss k _ s).trans (.helloDown k limit _)
    · split
      · exact .helloDown k limit s
      · exact .refl s
  · exact .refl s

theorem goodbye_keepsStaging (k : LaneId) (s : State) : ∃ t, execGoodbye k s = .next t ∧ KeepsStaging s t := by
  refine event_keepsStaging ?_
  split
  · exact .laneLoss k _ s
  · exact .refl s

theorem parkAck_keepsStaging (k : LaneId) (w : Bool) (s : State) : ∃ t, execParkAck k w s = .next t ∧ KeepsStaging s t := by
  refine event_keepsStaging ?_
  split
  · dsimp only
    split
    · exact .of
    · exact KeepsStaging.trans .of (.hostFrame k .refl _)
  · exact .refl s

theorem parkNak_keepsStaging (k : LaneId) (w : Bool) (s : State) : ∃ t, execParkNak k w s = .next t ∧ KeepsStaging s t := by
  refine event_keepsStaging ?_
  split
  · dsimp only
    split
    · exact .of
    · exact KeepsStaging.trans .of (.hostFrame k .refl _)
  · exact .refl s

theorem laneFrameDiscarded_keepsStaging (k : LaneId) (bytes : List Byte) (s : State) :
    ∃ t, execLaneFrameDiscarded k bytes s = .next t ∧ KeepsStaging s t := by
  unfold execLaneFrameDiscarded
  split <;> exact event_keepsStaging .of

theorem laneLinkLost_keepsStaging (k : LaneId) (s : State) : ∃ t, execLaneLinkLost k s = .next t ∧ KeepsStaging s t := by
  refine event_keepsStaging ?_
  split
  · split
    · exact .laneLoss k _ s
    · exact .of
  · exact .refl s

theorem wakeTimerExpiry_keepsStaging (k : LaneId) (s : State) : ∃ t, execWakeTimerExpiry k s = .next t ∧ KeepsStaging s t := by
  refine event_keepsStaging ?_
  split
  · exact .laneLoss k _ s
  · exact .of

theorem send_keepsStaging (k : LaneId) (s : State) : ∃ t, execSend k s = .next t ∧ KeepsStaging s t := by
  refine event_keepsStaging ?_
  split
  · exact .sendHead k _ _ s
  · exact .refl s

theorem transmissionComplete_keepsStaging (k : LaneId) (s : State) : ∃ t, execTransmissionComplete k s = .next t ∧ KeepsStaging s t := by
  refine event_keepsStaging ?_
  split
  · dsimp only
    split <;> exact .of
  · exact .refl s

theorem restartEvent_keepsStaging (s : State) : ∃ t, execRestartEvent s = .next t ∧ KeepsStaging s t := by
  refine event_keepsStaging ?_
  split
  · exact .emptied
  · exact .refl s

theorem powerOnReset_keepsStaging (ports : List Port) (lanes wakes : List LaneId) (s : State) :
    ∃ t, execPowerOnReset ports lanes wakes s = .next t ∧ KeepsStaging s t := event_keepsStaging (.powerOn ports lanes wakes s)

theorem sweepVisit_keepsStaging (s : State) : ∃ t, execSweepVisit s = .next t ∧ KeepsStaging s t := by
  refine event_keepsStaging ?_
  split
  · exact (KeepsStaging.visitEntry _ s).trans (.advanceSweep _)
  · exact .of

theorem refusedUnknown_keepsStaging (s : State) : ∃ t, execRefusedUnknown s = .next t ∧ KeepsStaging s t := by
  refine event_keepsStaging ?_
  split
  · split
    · exact .refl s
    · exact .of
  · exact .refl s

/-- Every command keeps the law. -/
theorem exec_keepsStaging (c : Instr) (s : State) : ∃ t, exec c s = .next t ∧ KeepsStaging s t := by
  cases c with
  | raise p n l c => exact event_keepsStaging (.received p n (.reconcileRaise p _ c) s)
  | drop p n l c => exact event_keepsStaging (.received p n (.reconcileDrop p _ c) s)
  | present p n v0 c0 v1 c1 =>
    exact event_keepsStaging (.received p n (fun u => (KeepsStaging.reconcilePresent p _ v0 c0 u).trans (.reconcilePresent p _ v1 c1 _)) s)
  | portLinkLoss p => exact portLinkLoss_keepsStaging p s
  | portLinkGained p => exact portLinkGained_keepsStaging p s
  | quietTimerExpiry p n => exact quietTimerExpiry_keepsStaging p n s
  | fieldFrameDiscarded | probe | rollcall | parkReplyTimeout | helloReplyGrant | parkGrant | mgmtResponseGrant | noticeGrant =>
    refine ⟨_, rfl, ?_⟩
    dsimp only
    split <;> exact .of
  | portTransmissionComplete | storageFault | laneLinkGained | hostWakeRaised | idleTimerExpiry | deepTimerExpiry =>
    exact ⟨_, rfl, .of⟩
  | hello k m => exact hello_keepsStaging k m s
  | goodbye k => exact goodbye_keepsStaging k s
  | retire k v => exact event_keepsStaging (.hostFrame k (.takeRetire k v) s)
  | credit k c => exact event_keepsStaging (.hostFrame k (.takeCredit k c) s)
  | mgmtRequest k payload => exact event_keepsStaging (.hostFrame k (.takeRequest k payload) s)
  | ready k => exact event_keepsStaging (.hostFrame k .refl s)
  | parkAck k w => exact parkAck_keepsStaging k w s
  | parkNak k w => exact parkNak_keepsStaging k w s
  | laneFrameDiscarded k b => exact laneFrameDiscarded_keepsStaging k b s
  | laneLinkLost k => exact laneLinkLost_keepsStaging k s
  | wakeTimerExpiry k => exact wakeTimerExpiry_keepsStaging k s
  | send k => exact send_keepsStaging k s
  | transmissionComplete k => exact transmissionComplete_keepsStaging k s
  | restartEvent => exact restartEvent_keepsStaging s
  | powerOnReset ports lanes wakes => exact powerOnReset_keepsStaging ports lanes wakes s
  | sweepVisit => exact sweepVisit_keepsStaging s
  | refusedUnknown => exact refusedUnknown_keepsStaging s
  | readEntry | readGroup | readLane | readNode | readPort => exact service_keepsStaging fun _ _ => .withOperand _ fun _ => .refl
  | identify | readNotices | readSweep => exact service_keepsStaging fun _ _ => .refl
  | readStaging | restart => exact service_keepsStaging fun _ _ _ => .of
  | stageEntry | stageGroup => exact service_keepsStaging fun k _ => .withOperand _ (.stage k)
  | commit => exact service_keepsStaging fun k _ => .commitStaging k
  | discard => exact service_keepsStaging fun k _ => .discardStaging k
  | setLane => exact service_keepsStaging fun k _ => .withOperand _ (.setLaneBody k)
  | setPort => exact service_keepsStaging fun _ _ => .withOperand _ fun _ _ => .of
  | setManager => exact service_keepsStaging fun _ _ => .withOperand _ .writeManager
  | clearNotices => exact service_keepsStaging fun _ _ => .withOperand _ .clearKinds
  | clearCounters => exact service_keepsStaging fun _ _ => .withOperand _ .zeroCounters
  | forceRetire => exact service_keepsStaging fun _ _ => .withOperand _ .forceRetireBody
  | startSweep => exact service_keepsStaging fun _ _ => .startSweepBody

/-- Every step keeps the law: the command it takes, or the microsecond that passes. -/
theorem step_keepsStaging (h : step s = .next t) : KeepsStaging s t := by
  have taken : ∀ {c u}, exec c u = .next t → KeepsStaging u t := fun {c u} e => by
    obtain ⟨v, hv, hk⟩ := exec_keepsStaging c u
    rw [hv] at e
    cases e
    exact hk
  unfold step at h
  split at h
  · next c rest _ => exact KeepsStaging.trans (t := { s with pending := rest }) .of (taken h)
  · split at h
    · exact taken h
    · cases h; exact .of

end keeps

/-- Settles O49: a record staged keeps the bound and the targets apart, and every other event leaves the list with its owner or empties both (R165). -/
theorem stagingLawIsKept : Obligations.StagingLawIsKept := fun _ _ h hs => step_keepsStaging hs h

end Sys2Proof.Machine

/-!
# The validation of a commit

The post-commit Group Table, the test of each record against it, and a COMMIT that is refused (R172, R173).
-/

namespace Sys2Proof.Machine

-- One theorem is elaborated after the other: many at once need too many threads.
set_option Elab.async false

/-! ### The post-commit Group Table -/

theorem groupContent_eq_some {g : GroupId} {x : StagedRecord} {c : Group} : x.groupContent g = some c ↔ x = .group g c := by
  cases x with
  | entry i img => simp [StagedRecord.groupContent]
  | group h d =>
    by_cases hg : h = g
    · simp [StagedRecord.groupContent, hg]
    · simp [StagedRecord.groupContent, hg]

/-- No record of a list is for the group. -/
theorem findSome?_groupContent_none {g : GroupId} {l : List StagedRecord} (h : ∀ c, StagedRecord.group g c ∉ l) :
    l.findSome? (StagedRecord.groupContent g) = none :=
  List.findSome?_eq_none_iff.mpr fun _ hx => Option.eq_none_iff_forall_ne_some.mpr fun c hc => h c (groupContent_eq_some.mp hc ▸ hx)

section validation
variable {s : State} {g : GroupId}

theorem postGroup_staged {c : Group} {front back : List StagedRecord} (hs : s.staging = front ++ .group g c :: back)
    (hfront : ∀ d, StagedRecord.group g d ∉ front) : postGroup s g = c := by
  have hc : StagedRecord.groupContent g (.group g c) = some c := groupContent_eq_some.mpr rfl
  rw [postGroup, hs, List.findSome?_append, findSome?_groupContent_none hfront, List.findSome?_cons, hc]
  rfl

theorem postGroup_kept (h : ∀ c, StagedRecord.group g c ∉ s.staging) : postGroup s g = s.group g := by
  rw [postGroup, findSome?_groupContent_none h]
  rfl

/-! ### The test of one record -/

theorem groupInUse_iff (s : State) (g : GroupId) : groupInUse s g = true ↔
    ∃ i, (s.entry i).workMask = .opened ∧ (s.entry i).image.group = g ∧ ∀ img, StagedRecord.entry i img ∉ s.staging := by
  have hstaged : ∀ i, (!entryStaged s i) = true ↔ ∀ img, StagedRecord.entry i img ∉ s.staging := fun i => by
    rw [Bool.not_eq_true', ← Bool.not_eq_true, entryStaged_iff, not_exists]
  rw [groupInUse, List.any_eq_true]
  simp only [rowsWhere_entries, decide_eq_true_iff, hstaged, and_assoc]

section entryRecord
variable (i : EntryIdx) (img : Image)

theorem recordFault_masked (hm : img.mask = .masked) : recordFault s (.entry i img) = none := if_neg (by rw [hm]; nofun)

theorem recordFault_vector (hm : img.mask = .opened) (hv : img.vector = 0) : recordFault s (.entry i img) = some .vectorZero := by
  rw [recordFault, if_pos hm, if_pos hv]

theorem recordFault_emptyGroup (hm : img.mask = .opened) (hv : img.vector ≠ 0) (hg : (postGroup s img.group).lanes = []) :
    recordFault s (.entry i img) = some .groupEmpty := by
  rw [recordFault, if_pos hm, if_neg hv, if_pos (List.isEmpty_iff.mpr hg)]

theorem recordFault_opened (hm : img.mask = .opened) (hv : img.vector ≠ 0) (hg : (postGroup s img.group).lanes ≠ []) :
    recordFault s (.entry i img) = none := by
  rw [recordFault, if_pos hm, if_neg hv, if_neg (mt List.isEmpty_iff.mp hg)]

/-- The entry records that pass (R173). -/
theorem recordFault_entry_none_iff : recordFault s (.entry i img) = none ↔
    img.mask = .masked ∨ (img.vector ≠ 0 ∧ (postGroup s img.group).lanes ≠ []) := by
  cases hm : img.mask with
  | masked => exact iff_of_true (recordFault_masked i img hm) (.inl rfl)
  | opened =>
    by_cases hv : img.vector = 0
    · simp [recordFault_vector i img hm hv, hv]
    · by_cases hg : (postGroup s img.group).lanes = []
      · simp [recordFault_emptyGroup i img hm hv hg, hg]
      · exact iff_of_true (recordFault_opened i img hm hv hg) (.inr ⟨hv, hg⟩)

end entryRecord

theorem recordFault_group (s : State) (g : GroupId) (c : Group) :
    recordFault s (.group g c) = if c.lanes = [] ∧ groupInUse s g = true then some .groupInUse else none := by
  simp only [recordFault, Bool.and_eq_true, List.isEmpty_iff]

/-- The group records that pass (R173). -/
theorem recordFault_group_none_iff (c : Group) : recordFault s (.group g c) = none ↔
    c.lanes ≠ [] ∨ ∀ i, (s.entry i).workMask = .opened → (s.entry i).image.group = g → ∃ img, StagedRecord.entry i img ∈ s.staging := by
  have hfree : ¬ groupInUse s g = true ↔
      ∀ i, (s.entry i).workMask = .opened → (s.entry i).image.group = g → ∃ img, StagedRecord.entry i img ∈ s.staging := by
    rw [groupInUse_iff]
    push Not
    rfl
  rw [recordFault_group, ← hfree, ← not_and_or]
  simp

/-- The test looks at the tables and the staging list, and not at the pointer of the search. -/
theorem recordFault_with_pointer (s : State) (k : LaneId) (x : StagedRecord) : recordFault { s with pointer := k } x = recordFault s x := by
  cases x <;> rfl

/-! ### The refusals -/

variable {k j : LaneId}

theorem commitStaging_empty (h : s.staging = []) : commitStaging k s = refuse .refusedNoStaging s := if_pos (List.isEmpty_iff.mpr h)

theorem commitStaging_owned (hne : s.staging ≠ []) (h : s.owner = some j) (hj : j ≠ k) : commitStaging k s = refuse .refusedStagingOwned s := by
  rw [commitStaging, if_neg (mt List.isEmpty_iff.mp hne)]
  exact if_pos (ownedByOther_other h hj)

variable {front back : List StagedRecord} {x : StagedRecord} {f : CommitFault}

/-- The first record that fails, with its position (R173). -/
theorem firstFault_append (hfront : ∀ y ∈ front, recordFault s y = none) (hx : recordFault s x = some f) (n : Nat) :
    firstFault s n (front ++ x :: back) = some (n + front.length, f) := by
  induction front generalizing n with
  | nil => simp [firstFault, hx]
  | cons y rest ih =>
    rw [List.cons_append, firstFault, hfront y List.mem_cons_self]
    dsimp only
    rw [ih (fun z hz => hfront z (List.mem_cons_of_mem y hz)), List.length_cons, Nat.add_assoc, Nat.add_comm 1]

theorem commitStaging_fails (hs : s.staging = front ++ x :: back) (ho : s.owner = some k) (hfront : ∀ y ∈ front, recordFault s y = none)
    (hx : recordFault s x = some f) :
    commitStaging k s = { after := s, outcome := .refusedValidation, data := [oneByte front.length, commitFaultCode f] } := by
  have hne : ¬ s.staging.isEmpty = true := by simp [hs]
  have hfault : firstFault s 0 s.staging = some (front.length, f) := by
    rw [hs, firstFault_append hfront hx, Nat.zero_add]
  rw [commitStaging, if_neg hne, ownedByOther_own (.inr ho), hfault]
  rfl

end validation

/-- Settles O43: the post-commit table, the records that pass, and the three refusals, the last with the first record that fails (R172, R173). -/
theorem commitIsRefusedWhole : Obligations.CommitIsRefusedWhole := by
  intro s k r
  refine ⟨fun _ _ _ _ hs hf => postGroup_staged hs hf, fun _ h => postGroup_kept h, recordFault_entry_none_iff,
    fun _ => recordFault_group_none_iff, fun h => ?_⟩
  intro b
  refine ⟨fun he => ?empty, fun j hne ho hj => ?owned, fun front x back hs ho hfront => ?fails⟩
  case empty => exact service_still (c := .commit) rfl h (commitStaging_empty (s := b) he)
  case owned => exact service_still (c := .commit) rfl h (commitStaging_owned (s := b) hne ho hj)
  case fails =>
    intro refusal
    have fails : ∀ {f}, recordFault s x = some f → refusal (commitFaultCode f) := fun {f} hx =>
      service_still (c := .commit) rfl h (commitStaging_fails (s := b) hs ho (fun y hy => (recordFault_with_pointer s k y).trans (hfront y hy))
        ((recordFault_with_pointer s k x).trans hx))
    refine ⟨fun i img e hm => ⟨fun hv => ?vector, fun hv hg => ?emptyGroup⟩, fun g c e hc hu => ?groupInUse⟩
    case vector => exact fails (f := .vectorZero) (e ▸ recordFault_vector i img hm hv)
    case emptyGroup => exact fails (f := .groupEmpty) (e ▸ recordFault_emptyGroup i img hm hv hg)
    case groupInUse =>
      exact fails (f := .groupInUse) (by rw [e, recordFault_group, if_pos ⟨hc, (groupInUse_iff s g).mpr hu⟩])

end Sys2Proof.Machine

/-!
# Record images

The images of chapter 11.5: each operand form reads back what the bridge sends of a record (R167, R168, R199), and the bytes of every image are those of its layout.
-/

namespace Sys2Proof.Machine

-- One theorem is elaborated after the other: many at once need too many threads.
set_option Elab.async false

/-! ### Bytes and their fields -/

theorem toNat_oneByte {n : Nat} (h : n < 256) : (oneByte n).toNat = n := by
  rw [oneByte, BitVec.toNat_ofNat]
  omega

theorem entryOperand_twoBytes (i : EntryIdx) : entryOperand (oneByte (i.val / 256)) (oneByte i.val) = some i := by
  have hv : ofTwoBytes (oneByte (i.val / 256)) (oneByte i.val) = i.val := by
    rw [ofTwoBytes, toNat_oneByte (by omega), oneByte, BitVec.toNat_ofNat]
    omega
  simp [entryOperand, hv]

/-- The two halves of a byte (chapter 11.5). -/
theorem halves_oneByte {a b : Nat} (ha : a < 16) (hb : b < 16) :
    (oneByte (a * 16 + b)).toNat / 16 = a ∧ (oneByte (a * 16 + b)).toNat % 16 = b := by
  rw [toNat_oneByte (by omega)]
  omega

/-! ### The steering-entry image -/

theorem maskCode_le (m : Mask) : maskCode m ≤ 1 := by cases m <;> decide

theorem triggerCode_le (t : Trigger) : triggerCode t ≤ 1 := by cases t <;> decide

theorem policyCode_le (p : Policy) : policyCode p ≤ 1 := by cases p <;> decide

/-- The image read back (R167). -/
theorem imageOperand_imageBytes (img : Image) :
    imageOperand (oneByte (maskCode img.mask * 64 + triggerCode img.trigger * 16 + img.priority.val)) (oneByte img.group.val) img.vector =
      some img := by
  obtain ⟨mask, trigger, vector, priority, group⟩ := img
  have hm := maskCode_le mask
  have ht := triggerCode_le trigger
  have hp := priority.isLt
  have hbyte : (oneByte (maskCode mask * 64 + triggerCode trigger * 16 + priority.val)).toNat =
      maskCode mask * 64 + triggerCode trigger * 16 + priority.val :=
    toNat_oneByte (by omega)
  generalize oneByte (maskCode mask * 64 + triggerCode trigger * 16 + priority.val) = b at hbyte
  have hmask : maskField b = some mask := by
    have hcode : b.toNat / 64 = maskCode mask := by omega
    rw [maskField, hcode]
    cases mask <;> rfl
  have htrigger : triggerField b = some trigger := by
    have hcode : b.toNat / 16 % 4 = triggerCode trigger := by omega
    rw [triggerField, hcode]
    cases trigger <;> rfl
  have hpriority : priorityField b = priority := Fin.ext (show b.toNat % 4 = priority.val by omega)
  simp only [imageOperand, hmask, htrigger, hpriority, below_oneByte (n := 16) (by omega)]

/-- The image of an entry's configuration is staged as its record (R167). -/
theorem stageEntryOperand_image (i : EntryIdx) (img : Image) (rest : List Byte) :
    stageEntryOperand (twoBytes i ++ imageBytes img ++ rest) = some (.entry i img) := by
  have hb : twoBytes i ++ imageBytes img ++ rest = oneByte (i.val / 256) :: oneByte i.val ::
      oneByte (maskCode img.mask * 64 + triggerCode img.trigger * 16 + img.priority.val) :: oneByte img.group.val :: img.vector :: rest := rfl
  rw [hb]
  simp only [stageEntryOperand, entryOperand_twoBytes, imageOperand_imageBytes]

/-! ### The group image -/

theorem slotOf_lt (lanes : List LaneId) (n : Nat) : slotOf lanes n < 8 := by
  unfold slotOf
  split
  · next k _ => exact k.isLt
  · decide

theorem slotOf_eq_getD (lanes : List LaneId) (n : Nat) : slotOf lanes n = (lanes[n]?.getD 0).val := by
  unfold slotOf
  cases lanes[n]? <;> rfl

/-- The slots of a group image are the preference list, and then 0. -/
theorem slotOf_append_zeros (lanes : List LaneId) (m n : Nat) : slotOf (lanes ++ List.replicate m 0) n = slotOf lanes n := by
  simp only [slotOf_eq_getD, List.getElem?_append]
  split
  · rfl
  · next h =>
    rw [List.getElem?_eq_none (Nat.le_of_not_lt h), List.getElem?_replicate]
    split <;> rfl

/-- The slots up to the length are the preference list. -/
theorem take_slots {lanes : List LaneId} (h : lanes.length ≤ 8) :
    ((List.range 8).map (slotOf lanes)).take lanes.length = lanes.map Fin.val := by
  refine List.ext_getElem (by simp [h]) fun n hn hn' => ?_
  have hlt : n < lanes.length := by simpa using hn'
  simp [slotOf, hlt]

/-- The slots as they stand in the bytes of the image (chapter 11.5). -/
theorem laneSlots_slotOf (lanes : List LaneId) :
    laneSlots (oneByte (slotOf lanes 0 * 16 + slotOf lanes 1)) (oneByte (slotOf lanes 2 * 16 + slotOf lanes 3))
      (oneByte (slotOf lanes 4 * 16 + slotOf lanes 5)) (oneByte (slotOf lanes 6 * 16 + slotOf lanes 7)) =
    (List.range 8).map (slotOf lanes) := by
  have hpair : ∀ m n, (oneByte (slotOf lanes m * 16 + slotOf lanes n)).toNat / 16 = slotOf lanes m ∧
      (oneByte (slotOf lanes m * 16 + slotOf lanes n)).toNat % 16 = slotOf lanes n := fun m n =>
    halves_oneByte ((slotOf_lt lanes m).trans (by decide)) ((slotOf_lt lanes n).trans (by decide))
  simp only [laneSlots, List.flatMap_cons, List.flatMap_nil, hpair]
  rfl

theorem slotLane_val (k : LaneId) : slotLane k.val = some k := dif_pos k.isLt

/-- The image read back (R168). -/
theorem groupOperand_groupBytes {c : Group} (hn : c.lanes.Nodup) :
    groupOperand (oneByte (policyCode c.policy * 64 + c.lanes.length)) (oneByte (slotOf c.lanes 0 * 16 + slotOf c.lanes 1))
      (oneByte (slotOf c.lanes 2 * 16 + slotOf c.lanes 3)) (oneByte (slotOf c.lanes 4 * 16 + slotOf c.lanes 5))
      (oneByte (slotOf c.lanes 6 * 16 + slotOf c.lanes 7)) = some c := by
  obtain ⟨policy, lanes⟩ := c
  dsimp only at hn ⊢
  have hlen : lanes.length ≤ 8 := by simpa using hn.length_le_card
  have hbyte : (oneByte (policyCode policy * 64 + lanes.length)).toNat = policyCode policy * 64 + lanes.length :=
    toNat_oneByte (by have := policyCode_le policy; omega)
  have hlow : (policyCode policy * 64 + lanes.length) % 16 = lanes.length := by omega
  have hhigh : (policyCode policy * 64 + lanes.length) / 64 = policyCode policy := by omega
  have hlanes : (lanes.map Fin.val).mapM slotLane = some lanes := mapM_map_eq_some slotLane_val lanes
  rw [groupOperand, laneSlots_slotOf, hbyte]
  simp only [hlow, hhigh, take_slots hlen, hlanes]
  cases policy <;> exact if_pos ⟨hlen, hn⟩

/-- The image of a group record is staged as its record (R168). -/
theorem stageGroupOperand_image (g : GroupId) {c : Group} (hn : c.lanes.Nodup) (rest : List Byte) :
    stageGroupOperand (oneByte g :: groupBytes c ++ rest) = some (.group g c) := by
  have hb : oneByte g :: groupBytes c ++ rest = oneByte g.val :: oneByte (policyCode c.policy * 64 + c.lanes.length) ::
      oneByte (slotOf c.lanes 0 * 16 + slotOf c.lanes 1) :: oneByte (slotOf c.lanes 2 * 16 + slotOf c.lanes 3) ::
      oneByte (slotOf c.lanes 4 * 16 + slotOf c.lanes 5) :: oneByte (slotOf c.lanes 6 * 16 + slotOf c.lanes 7) :: rest := rfl
  rw [hb]
  simp only [stageGroupOperand, below_oneByte (n := 16) (by omega), groupOperand_groupBytes hn]

/-! ### The layouts -/

theorem imageBytes_layout (img : Image) : imageBytes img =
    [oneByte ((match img.mask with | .masked => 0 | .opened => 64) + (match img.trigger with | .edge => 0 | .level => 16) + img.priority.val),
      oneByte img.group.val, img.vector] := by
  obtain ⟨mask, trigger, vector, priority, group⟩ := img
  cases mask <;> cases trigger <;> rfl

theorem groupBytes_layout (c : Group) : groupBytes c =
    oneByte ((match c.policy with | .prefer => 0 | .balance => 64) + c.lanes.length) ::
      [oneByte (slotOf c.lanes 0 * 16 + slotOf c.lanes 1), oneByte (slotOf c.lanes 2 * 16 + slotOf c.lanes 3),
        oneByte (slotOf c.lanes 4 * 16 + slotOf c.lanes 5), oneByte (slotOf c.lanes 6 * 16 + slotOf c.lanes 7)] := by
  obtain ⟨policy, lanes⟩ := c
  cases policy <;> rfl

theorem dynamicBytes_layout (e : Entry) : dynamicBytes e =
    (match e.state with | .idle => 0 | .latched => 1 | .stranded => 2 | .held _ => 3 | .queued _ => 4 | .outstanding _ _ => 5) ::
    oneByte ((if e.line then 128 else 0) + (if e.quarantined then 64 else 0) + (match e.raiseCount with | none => 32 | some r => r.toNat)) ::
    oneByte e.pendingCount ::
    (match e.state with
      | .held j | .queued j => [oneByte j, 0x00]
      | .outstanding j v => [oneByte j, v]
      | .idle | .latched | .stranded => [0xFF, 0x00]) := by
  have hcount : raiseCountBits e.raiseCount = match e.raiseCount with | none => 32 | some r => r.toNat := by
    cases e.raiseCount <;> rfl
  rw [dynamicBytes, hcount]
  cases e.state <;> rfl

/-- A counter in four bytes, high byte first (R199). -/
theorem fourBytes_layout (n : Counter) : fourBytes n =
    [oneByte (n.toNat / 2 ^ 24), oneByte (n.toNat / 2 ^ 16), oneByte (n.toNat / 2 ^ 8), oneByte n.toNat] := by
  have hbyte : ∀ m, n.extractLsb' m 8 = oneByte (n.toNat / 2 ^ m) := fun m =>
    BitVec.eq_of_toNat_eq (by rw [BitVec.extractLsb'_toNat, oneByte, BitVec.toNat_ofNat, Nat.shiftRight_eq_div_pow])
  rw [fourBytes, hbyte, hbyte, hbyte, hbyte, Nat.pow_zero, Nat.div_one]

/-- Settles O60: the two operand forms read back the images, and each image is its layout (R167, R168, R199). -/
theorem imagesAreStagedAsSent : Obligations.ImagesAreStagedAsSent := by
  refine ⟨stageEntryOperand_image, fun g c rest hn => stageGroupOperand_image g hn rest, fun n => ⟨rfl, rfl⟩, imageBytes_layout,
    fun c slots hs _ => ?group, dynamicBytes_layout, fun _ _ => rfl, fun _ _ => rfl, fun _ => rfl, fourBytes_layout, fun _ => rfl⟩
  case group =>
    simp only [hs, ← slotOf_eq_getD, slotOf_append_zeros]
    exact groupBytes_layout c

end Sys2Proof.Machine

/-!
# The raise of a notice

The raise of a set and of a clear kind (R182), and work to send in each lane state (R134).
-/

namespace Sys2Proof.Machine

-- One theorem is elaborated after the other: many at once need too many threads.
set_option Elab.async false

theorem raised_of_clear {r : NoticeRecord} (h : r.isSet = false) (d : Nat) :
    r.raised d = { isSet := true, sent := r.sent, detail := d, repeats := 0 } := if_neg (h ▸ Bool.false_ne_true)

theorem raiseNotice_of_isSet {s : State} {kind : NoticeKind} (h : (s.notice kind).isSet = true) (d : Nat) :
    raiseNotice kind d s = s.setNotice kind ((s.notice kind).raised d) := if_pos h

theorem raiseNotice_of_clear {s : State} {kind : NoticeKind} (h : (s.notice kind).isSet = false) (d : Nat) :
    raiseNotice kind d s = (s.setNotice kind ((s.notice kind).raised d)).workToSend s.manager := if_neg (h ▸ Bool.false_ne_true)

/-- Settles O6: a set kind counts the raise, a clear one is set and wakes the manager lane (R182), and the wake in each lane state (R134). -/
theorem noticeRaisesAndTheirWork : Obligations.NoticeRaisesAndTheirWork := by
  intro s kind d k
  refine ⟨fun hset => ?set, fun hclear => ?clear, congrArg (s.modLane k) (funext fun l => ?work)⟩
  case set => rw [raiseNotice_of_isSet hset, raised_of_isSet hset]
  case clear => rw [raiseNotice_of_clear hclear, raised_of_clear hclear]
  case work =>
    obtain ⟨state⟩ := l
    cases state <;> rfl

end Sys2Proof.Machine

/-!
# The law of the notice table

R181: a clear kind stands at its clear values, and repeats never pass 255. A raise (R182), a mark as sent (R184) and a clearing (R186) each keep the law, and
nothing else writes the table: so every procedure keeps it that raises notices, and with them every step.
-/

namespace Sys2Proof.Machine

-- One theorem is elaborated after the other: many at once need too many threads.
set_option Elab.async false

/-! ### The law, record by record -/

/-- R181 for one kind's record. -/
def NoticeRecord.Fits (r : NoticeRecord) : Prop := r.repeats ≤ 255 ∧ (r.isSet = false → r = .clear)

theorem noticesSound_iff (s : State) : NoticesSound s ↔ ∀ n, (s.notice n).Fits := Iff.rfl

theorem NoticeRecord.Fits.clear : NoticeRecord.clear.Fits := ⟨Nat.zero_le _, fun _ => rfl⟩

/-- The repeats of a raised record are at most 255: they stop there, and start at 0 (R182). -/
theorem NoticeRecord.Fits.raised (d : Nat) (r : NoticeRecord) : (r.raised d).Fits := by
  refine ⟨?_, fun h => absurd ((raised_isSet d r).symm.trans h) nofun⟩
  cases h : r.isSet with
  | true => rw [raised_of_isSet h]; exact Nat.min_le_left ..
  | false => rw [raised_of_clear h]; exact Nat.zero_le _

/-- Only a set kind is marked as sent (R184). -/
theorem NoticeRecord.Fits.markedSent {r : NoticeRecord} (h : r.Fits) (hset : r.isSet = true) : ({ r with sent := true } : NoticeRecord).Fits :=
  ⟨h.1, fun hclear => absurd (hset.symm.trans hclear) nofun⟩

section notices
variable {s t : State}

/-- A state with the notices of another. -/
theorem NoticesSound.of (h : NoticesSound s) (e : ∀ n, t.notice n = s.notice n := by exact fun _ => rfl) : NoticesSound t := by
  rw [noticesSound_iff] at h ⊢
  intro n
  rw [e]
  exact h n

theorem NoticesSound.setNotice (h : NoticesSound s) {n : NoticeKind} {r : NoticeRecord} (hr : r.Fits) : NoticesSound (s.setNotice n r) := by
  rw [noticesSound_iff] at h ⊢
  intro m
  rw [notice_setNotice]
  split
  · exact hr
  · exact h m

/-- A table that is clear (R163, R201). -/
theorem NoticesSound.ofClear (e : s.notices = .replicate 10 .clear) : NoticesSound s := by
  rw [noticesSound_iff]
  intro n
  have hn : s.notice n = .clear := by
    rw [State.notice]
    simp only [e, Vector.getElem_replicate]
  rw [hn]
  exact .clear

theorem NoticesSound.raiseNotice (h : NoticesSound s) (n : NoticeKind) (d : Nat) : NoticesSound (raiseNotice n d s) := by
  have hset : NoticesSound (s.setNotice n ((s.notice n).raised d)) := h.setNotice (.raised d _)
  refine hset.of fun m => ?_
  rw [raiseNotice_notice, notice_setNotice]

theorem NoticesSound.foldl {α : Type} {f : State → α → State} (hf : ∀ s a, NoticesSound s → NoticesSound (f s a)) (l : List α)
    (h : NoticesSound s) : NoticesSound (l.foldl f s) := by
  induction l generalizing s with
  | nil => exact h
  | cons a rest ih => exact ih (hf s a h)

/-! ### The delivery procedures -/

theorem NoticesSound.quarantineLoose (h : NoticesSound s) (i : EntryIdx) : NoticesSound (quarantineLoose i s) :=
  .raiseNotice h.of .tableFault i

theorem NoticesSound.promoteFrom (h : NoticesSound s) (k : LaneId) (waiting : List EntryIdx) : NoticesSound (promoteFrom k waiting s) := by
  induction waiting generalizing s with
  | nil => exact h.of
  | cons i rest ih =>
    unfold Machine.promoteFrom
    split
    · exact h.of
    · exact ih (.quarantineLoose h.of i)

theorem NoticesSound.promote (h : NoticesSound s) (k : LaneId) : NoticesSound (promote k s) := by
  unfold Machine.promote
  split
  · exact h.promoteFrom k _
  · exact h

theorem NoticesSound.withdraw (h : NoticesSound s) (i : EntryIdx) : NoticesSound (withdraw i s) := by
  have htaken : NoticesSound (takeOut i s) := h.of (takeOut_notice i s)
  rcases withdraw_cases s i with e | ⟨k, -, e⟩ <;> rw [e]
  · exact htaken
  · exact htaken.promote k

theorem NoticesSound.place (h : NoticesSound s) (k : LaneId) (i : EntryIdx) : NoticesSound (place k i s) := by
  unfold Machine.place
  split <;> exact h.of

theorem NoticesSound.offer (h : NoticesSound s) (i : EntryIdx) : NoticesSound (offer i s) := by
  have ho := offer_outcome i s
  generalize Machine.offer i s = t at ho
  cases ho with
  | latches => exact h.of
  | quarantines => exact h.quarantineLoose i
  | strands => exact .raiseNotice h.of .entryStranded i
  | places k => exact h.place k i

theorem NoticesSound.offerAll (h : NoticesSound s) (is : List EntryIdx) : NoticesSound (offerAll is s) :=
  .foldl (fun _ i hu => hu.offer i) is h

theorem NoticesSound.settleRelease (h : NoticesSound s) (i : EntryIdx) : NoticesSound (settleRelease i s) := by
  unfold Machine.settleRelease
  split
  · exact .offer h.of i
  · exact h.of

theorem NoticesSound.releaseAll (h : NoticesSound s) (is : List EntryIdx) : NoticesSound (releaseAll is s) :=
  .foldl (fun _ i hu => hu.settleRelease i) is (.foldl (fun _ _ hu => hu.of) is h)

theorem NoticesSound.quarantineFound (h : NoticesSound s) (i : EntryIdx) : NoticesSound (quarantineFound i s) := by
  have hflagged : NoticesSound (s.modEntry i fun e => { e with quarantined := true }) := h.of
  refine .raiseNotice (s := settleFound i s) ?_ .tableFault i
  unfold settleFound
  dsimp only
  split
  · exact .of (hflagged.withdraw i)
  · exact .of (hflagged.withdraw i)
  all_goals exact h.of

/-! ### Event intake and node presence -/

theorem NoticesSound.coalesce (h : NoticesSound s) (i : EntryIdx) (n : Nat) : NoticesSound (coalesce i n s) := by
  rw [coalesce_eq]
  split
  · exact .raiseNotice h.of .countSaturated i
  · exact h.of

theorem NoticesSound.edgeRaise (h : NoticesSound s) (i : EntryIdx) (n : Nat) : NoticesSound (edgeRaise i n s) := by
  cases hs : (s.entry i).state with
  | idle => rw [edgeRaise_idle_eq hs]; exact .offer h.of i
  | latched | stranded | held | queued => rw [edgeRaise_waits (by rw [hs]; rfl)]; exact .coalesce h.of i n
  | outstanding => rw [edgeRaise_outstanding hs]; exact h.of

theorem NoticesSound.levelAssert (h : NoticesSound s) (i : EntryIdx) : NoticesSound (levelAssert i s) := by
  cases hl : (s.entry i).line with
  | true => rw [levelAssert_asserted hl]; exact h
  | false =>
    by_cases hs : (s.entry i).state = .idle
    · rw [levelAssert_idle_eq hl hs]; exact .offer h.of i
    · rw [levelAssert_not_idle hl hs]; exact h.of

theorem NoticesSound.deassert (h : NoticesSound s) (i : EntryIdx) : NoticesSound (deassert i s) := by
  have hlow : NoticesSound (s.modEntry i fun e => { e with line := false }) := h.of
  rw [deassert_eq]
  split
  · exact h
  · split
    · exact .of (hlow.withdraw i)
    · exact hlow

theorem NoticesSound.raiseEffect (h : NoticesSound s) (i : EntryIdx) (n : Nat) : NoticesSound (raiseEffect i n s) := by
  unfold Machine.raiseEffect
  split
  · exact h.edgeRaise i n
  · exact h.levelAssert i

theorem NoticesSound.knownRaise (h : NoticesSound s) (p : Port) (i : EntryIdx) (c : RaiseCount) (diff : Nat) :
    NoticesSound (knownRaise p i c diff s) := .raiseEffect h.of i diff

theorem NoticesSound.knownDrop (h : NoticesSound s) (p : Port) (i : EntryIdx) (c : RaiseCount) (diff : Nat) :
    NoticesSound (knownDrop p i c diff s) := by
  cases ht : (s.entry i).workTrigger with
  | edge => rw [knownDrop_edge ht]; exact .deassert (.edgeRaise h.of i diff) i
  | level => rw [knownDrop_level ht]; exact .deassert h.of i

theorem NoticesSound.reconcileRaise (h : NoticesSound s) (p : Port) (i : EntryIdx) (c : RaiseCount) :
    NoticesSound (reconcileRaise p i c s) := by
  unfold Machine.reconcileRaise
  split
  · exact .raiseEffect h.of i 1
  · split
    · exact h.of
    · exact h.knownRaise p i c _

theorem NoticesSound.reconcileDrop (h : NoticesSound s) (p : Port) (i : EntryIdx) (c : RaiseCount) :
    NoticesSound (reconcileDrop p i c s) := by
  unfold Machine.reconcileDrop
  split
  · exact .deassert h.of i
  · split
    · split
      · exact h.deassert i
      · exact h.of
    · exact h.knownDrop p i c _

theorem NoticesSound.adoptPresent (h : NoticesSound s) (i : EntryIdx) (level : Bool) (c : RaiseCount) :
    NoticesSound (adoptPresent i level c s) := by
  unfold Machine.adoptPresent
  dsimp only
  split
  · split
    · exact h.of
    · exact .levelAssert h.of i
  · exact h.of

theorem NoticesSound.reconcilePresent (h : NoticesSound s) (p : Port) (i : EntryIdx) (level : Bool) (c : RaiseCount) :
    NoticesSound (reconcilePresent p i level c s) := by
  unfold Machine.reconcilePresent
  split
  · exact h.adoptPresent i level c
  · split
    · split
      · exact h
      · exact h.deassert i
    · split
      · exact h.knownRaise p i c _
      · exact h.knownDrop p i c _

theorem NoticesSound.heard (h : NoticesSound s) (p : Port) (n : Node) : NoticesSound (heard p n s) := by
  unfold Machine.heard
  dsimp only
  split
  · exact .raiseNotice h.of .nodeArrived _
  · exact .raiseNotice h.of .nodeArrived _
  all_goals exact h.of

/-- A frame that is received is accepted, and then reconciled (R31). -/
theorem NoticesSound.received (h : NoticesSound s) (p : Port) (n : Node) {f : State → State} (hf : ∀ u, NoticesSound u → NoticesSound (f u)) :
    NoticesSound (if receives s p then accepted p n f s else s) := by
  split
  · exact hf _ (.heard h.of p n)
  · exact h

theorem NoticesSound.absentLine (h : NoticesSound s) (i : EntryIdx) : NoticesSound (absentLine i s) := .of (h.deassert i)

theorem NoticesSound.nodeAbsence (h : NoticesSound s) (p : Port) (n : Node) : NoticesSound (nodeAbsence p n s) := by
  have hgone : NoticesSound (absentNode p n s) := h.of
  rw [nodeAbsence_eq]
  exact ((hgone.absentLine _).absentLine _).raiseNotice .nodeLost _

theorem NoticesSound.portLoss (h : NoticesSound s) (p : Port) : NoticesSound (portLoss p s) := by
  have hdown : NoticesSound (portDown p s) := h.of
  rw [portLoss_eq]
  exact .raiseNotice (.foldl (fun _ n hu => hu.nodeAbsence p n) _ hdown) .portLink _

theorem NoticesSound.portGain (h : NoticesSound s) (p : Port) : NoticesSound (portGain p s) := .raiseNotice h.of .portLink _

/-! ### Lanes -/

theorem NoticesSound.laneLost (h : NoticesSound s) (k : LaneId) (cause : LossCause) : NoticesSound (laneLost k cause s) := by
  have hlane : NoticesSound (lossOfLane k cause s) := h.of
  have hwork : NoticesSound (workMoved k cause s) := .foldl (fun _ i hu => (hu.withdraw i).offer i) _ hlane
  have hbound : NoticesSound (lossOfBindings k (workMoved k cause s)) := hwork.releaseAll _
  exact hbound.of (lossOfManagement_notice k _)

theorem NoticesSound.laneLoss (h : NoticesSound s) (k : LaneId) (cause : LossCause) : NoticesSound (laneLoss k cause s) := by
  rw [laneLoss_cases]
  cases cause with
  | linkLost | wakeTimeout | restarted => exact (h.laneLost k _).raiseNotice .laneDown _
  | closed | disabled => exact h.laneLost k _

theorem NoticesSound.helloDown (h : NoticesSound s) (k : LaneId) (limit : Byte) : NoticesSound (helloDown k limit s) := by
  unfold Machine.helloDown
  split
  · exact .offerAll h.of _
  · exact h.of

theorem NoticesSound.hostFrame (h : NoticesSound s) (k : LaneId) {take : State → State}
    (ht : ∀ u, NoticesSound u → NoticesSound (take u)) : NoticesSound (hostFrame k take s) := by
  unfold Machine.hostFrame
  split
  · refine ht _ (h.of fun n => ?_)
    rw [frameWakes_frame]
    rfl
  · exact h

theorem NoticesSound.takeRetire (h : NoticesSound s) (k : LaneId) (v : Byte) : NoticesSound (takeRetire k v s) := by
  unfold Machine.takeRetire
  dsimp only
  split
  · exact .raiseNotice h.of .strayRetire _
  · exact .releaseAll h.of _

theorem NoticesSound.takeCredit (h : NoticesSound s) (k : LaneId) (c : Byte) : NoticesSound (takeCredit k c s) := by
  unfold Machine.takeCredit
  dsimp only
  split
  · exact h
  · split
    · exact h.of
    · exact .raiseNotice h.of .creditOverrun k

theorem NoticesSound.takeRequest (h : NoticesSound s) (k : LaneId) (payload : List Byte) : NoticesSound (takeRequest k payload s) := by
  unfold Machine.takeRequest
  split
  · split
    · exact h.of
    · split <;> exact h.of
  · exact h.of

theorem NoticesSound.sendHead (h : NoticesSound s) (k : LaneId) (item : Item) (rest : List Item) : NoticesSound (sendHead k item rest s) := by
  have hsent : NoticesSound (sentItem k item rest s) := h.of
  rw [sendHead_eq]
  exact .of (hsent.promote k)

/-! ### The operations of management and the Table Sweep -/

theorem NoticesSound.withOperand (h : NoticesSound s) {α : Type} (o : Option α) {body : α → State → Reply}
    (hb : ∀ a, NoticesSound (body a s).after) : NoticesSound (withOperand o body s).after := by
  cases o with
  | none => exact h
  | some a => exact hb a

theorem NoticesSound.stage (h : NoticesSound s) (k : LaneId) (r : StagedRecord) : NoticesSound (stage k r s).after := by
  unfold Machine.stage
  split
  · exact h
  · split
    · exact h.of
    · split <;> exact h.of

theorem NoticesSound.clearStaging (h : NoticesSound s) : NoticesSound (clearStaging s) := h.of

theorem NoticesSound.discardStaging (h : NoticesSound s) (k : LaneId) : NoticesSound (discardStaging k s).after := by
  unfold Machine.discardStaging
  split
  · exact h
  · split
    · exact h
    · exact h.clearStaging

theorem NoticesSound.settlePending (h : NoticesSound s) (i : EntryIdx) (count : Nat) : NoticesSound (settlePending i count s) := by
  unfold Machine.settlePending
  split
  · exact h.of
  · exact .offer h.of i

theorem NoticesSound.applyEntry (h : NoticesSound s) (i : EntryIdx) (img : Image) : NoticesSound (applyEntry i img s) := by
  have hw : NoticesSound (writeEntry i img s) := h.of
  unfold Machine.applyEntry
  dsimp only
  split
  · split
    · exact .offer h.of i
    · exact hw
  · exact hw.settlePending i _
  · exact hw.settlePending i _
  · exact (hw.withdraw i).settlePending i _
  · exact (hw.withdraw i).settlePending i _
  · split
    · exact hw
    · exact .settleRelease h.of i

theorem NoticesSound.applyCommit (h : NoticesSound s) : NoticesSound (applyCommit s) := by
  have hgroups : NoticesSound (groupsApplied s.staging s) := by
    rw [groupsApplied_frame]
    exact h.of
  have hentries : NoticesSound (entriesApplied s.staging (groupsApplied s.staging s)) := by
    refine .foldl (fun u r hu => ?_) s.staging hgroups
    cases r with
    | entry i img => exact hu.applyEntry i img
    | group => exact hu
  rw [applyCommit_eq]
  exact (hentries.offerAll _).clearStaging

theorem NoticesSound.commitStaging (h : NoticesSound s) (k : LaneId) : NoticesSound (commitStaging k s).after := by
  unfold Machine.commitStaging
  split
  · exact h
  · split
    · exact h
    · split
      · exact h
      · exact h.applyCommit

theorem NoticesSound.writeSettings (h : NoticesSound s) (j : LaneId) (st : LaneSettings) : NoticesSound (writeSettings j st s) := by
  unfold Machine.writeSettings
  dsimp only
  split
  · split
    · exact .laneLoss h.of j .disabled
    · exact h.of
  all_goals exact h.of

theorem NoticesSound.setLaneBody (h : NoticesSound s) (k : LaneId) (a : LaneId × LaneSettings) : NoticesSound (setLaneBody k a s).after := by
  unfold Machine.setLaneBody
  split
  · exact h
  · split
    · exact h
    · exact h.writeSettings a.1 a.2

theorem NoticesSound.writeManager (h : NoticesSound s) (k : LaneId) : NoticesSound (writeManager k s) := by
  unfold Machine.writeManager
  dsimp only
  split
  · exact h
  · split <;> exact h.of

/-- The kinds cleared take their clear values together (R186). -/
theorem NoticesSound.clearKinds (h : NoticesSound s) (kinds : List NoticeKind) : NoticesSound (clearKinds kinds s) :=
  .foldl (fun _ _ hu => hu.setNotice .clear) kinds h

theorem NoticesSound.zeroCounters (h : NoticesSound s) (target : CounterTarget) : NoticesSound (zeroCounters target s) := by
  cases target <;> exact h.of

theorem NoticesSound.forceRetireBody (h : NoticesSound s) (i : EntryIdx) : NoticesSound (forceRetireBody i s).after := by
  unfold Machine.forceRetireBody
  split
  · exact .settleRelease h.of i
  · exact h

theorem NoticesSound.startSweepBody (h : NoticesSound s) : NoticesSound (startSweepBody s).after := by
  unfold Machine.startSweepBody
  split <;> exact h.of

theorem NoticesSound.visitEntry (h : NoticesSound s) (i : EntryIdx) : NoticesSound (visitEntry i s) := by
  unfold Machine.visitEntry
  split
  · exact h
  · exact .of (h.quarantineFound i)

theorem NoticesSound.advanceSweep (h : NoticesSound s) : NoticesSound (advanceSweep s) := by
  unfold Machine.advanceSweep
  dsimp only
  split
  · exact h.of
  · exact .raiseNotice h.of .sweepDone _

/-! ### Every command, and every step -/

theorem event_noticesSound {c : Option LaneId} {f : State → State} (h : NoticesSound (f s)) :
    ∃ t, event c s f = .next t ∧ NoticesSound t := ⟨_, event_next c s f, h.of⟩

theorem service_noticesSound (h : NoticesSound s) {code : Nat} {write : Bool} {body : LaneId → List Byte → State → Reply}
    (hb : ∀ k args u, NoticesSound u → NoticesSound (body k args u).after) :
    ∃ t, event none s (serve code write body) = .next t ∧ NoticesSound t := by
  refine event_noticesSound ?_
  rcases serve_cases code write body s with ⟨e, -⟩ | ⟨k, r, -, -, ⟨-, e⟩ | ⟨-, e⟩⟩ <;> rw [e]
  · exact h
  · exact h.of
  · exact .of (hb k r.args { s with pointer := k } h.of)

theorem portLinkLoss_noticesSound (h : NoticesSound s) (p : Port) : ∃ t, execPortLinkLoss p s = .next t ∧ NoticesSound t := by
  refine event_noticesSound ?_
  split
  · exact h.portLoss p
  · exact h

theorem portLinkGained_noticesSound (h : NoticesSound s) (p : Port) : ∃ t, execPortLinkGained p s = .next t ∧ NoticesSound t := by
  refine event_noticesSound ?_
  split
  · exact h
  · exact h.portGain p

theorem quietTimerExpiry_noticesSound (h : NoticesSound s) (p : Port) (n : Node) :
    ∃ t, execQuietTimerExpiry p n s = .next t ∧ NoticesSound t := by
  refine event_noticesSound ?_
  split
  · split
    · exact h.of
    · exact h.nodeAbsence p n
    all_goals exact h.of
  · exact h

theorem hello_noticesSound (h : NoticesSound s) (k : LaneId) (limit : Byte) : ∃ t, execHello k limit s = .next t ∧ NoticesSound t := by
  refine event_noticesSound ?_
  split
  · split
    · exact (h.laneLoss k .restarted).helloDown k limit
    · split
      · exact h.helloDown k limit
      · exact h
  · exact h

theorem goodbye_noticesSound (h : NoticesSound s) (k : LaneId) : ∃ t, execGoodbye k s = .next t ∧ NoticesSound t := by
  refine event_noticesSound ?_
  split
  · exact h.laneLoss k .closed
  · exact h

theorem parkAck_noticesSound (h : NoticesSound s) (k : LaneId) (w : Bool) : ∃ t, execParkAck k w s = .next t ∧ NoticesSound t := by
  refine event_noticesSound ?_
  split
  · dsimp only
    split
    · exact h.of
    · exact .hostFrame h.of k fun _ hu => hu
  · exact h

theorem parkNak_noticesSound (h : NoticesSound s) (k : LaneId) (w : Bool) : ∃ t, execParkNak k w s = .next t ∧ NoticesSound t := by
  refine event_noticesSound ?_
  split
  · dsimp only
    split
    · exact h.of
    · exact .hostFrame h.of k fun _ hu => hu
  · exact h

theorem laneFrameDiscarded_noticesSound (h : NoticesSound s) (k : LaneId) (bytes : List Byte) :
    ∃ t, execLaneFrameDiscarded k bytes s = .next t ∧ NoticesSound t := by
  unfold execLaneFrameDiscarded
  split <;> exact event_noticesSound h.of

theorem laneLinkLost_noticesSound (h : NoticesSound s) (k : LaneId) : ∃ t, execLaneLinkLost k s = .next t ∧ NoticesSound t := by
  refine event_noticesSound ?_
  split
  · split
    · exact h.laneLoss k .linkLost
    · exact h.of
  · exact h

theorem wakeTimerExpiry_noticesSound (h : NoticesSound s) (k : LaneId) : ∃ t, execWakeTimerExpiry k s = .next t ∧ NoticesSound t := by
  refine event_noticesSound ?_
  split
  · exact h.laneLoss k .wakeTimeout
  · exact h.of

theorem firstUnsent_isSet {n : NoticeKind} (h : s.firstUnsent = some n) : (s.notice n).isSet = true := by
  have hu : (s.notice n).unsent = true := List.find?_some (p := fun m => (s.notice m).unsent) h
  exact Bool.and_elim_left hu

/-- The kind granted is unsent, so that it is set (R184). -/
theorem noticeGrant_noticesSound (h : NoticesSound s) : ∃ t, execNoticeGrant s = .next t ∧ NoticesSound t := by
  refine event_noticesSound ?_
  dsimp only
  split
  · next n _ hn => exact .of (h.setNotice (.markedSent ((noticesSound_iff s).mp h n) (firstUnsent_isSet hn)))
  · exact h

theorem send_noticesSound (h : NoticesSound s) (k : LaneId) : ∃ t, execSend k s = .next t ∧ NoticesSound t := by
  refine event_noticesSound ?_
  split
  · exact h.sendHead k _ _
  · exact h

theorem transmissionComplete_noticesSound (h : NoticesSound s) (k : LaneId) :
    ∃ t, execTransmissionComplete k s = .next t ∧ NoticesSound t := by
  refine event_noticesSound ?_
  split
  · dsimp only
    split <;> exact h.of
  · exact h

theorem restartEvent_noticesSound (h : NoticesSound s) : ∃ t, execRestartEvent s = .next t ∧ NoticesSound t := by
  refine event_noticesSound ?_
  split
  · exact .ofClear rfl
  · exact h

/-- The links that the power-on reset detects are raised on a clear table (R201). -/
theorem powerOnReset_noticesSound (ports : List Port) (lanes wakes : List LaneId) (s : State) :
    ∃ t, execPowerOnReset ports lanes wakes s = .next t ∧ NoticesSound t := by
  have hreset : NoticesSound (detectLanes lanes wakes { State.reset with pending := s.pending }) := .ofClear rfl
  refine event_noticesSound (.foldl (fun u p hu => ?_) ports hreset)
  split
  · exact hu
  · exact hu.portGain p

theorem sweepVisit_noticesSound (h : NoticesSound s) : ∃ t, execSweepVisit s = .next t ∧ NoticesSound t := by
  refine event_noticesSound ?_
  split
  · exact (h.visitEntry _).advanceSweep
  · exact h.of

theorem refusedUnknown_noticesSound (h : NoticesSound s) : ∃ t, execRefusedUnknown s = .next t ∧ NoticesSound t := by
  refine event_noticesSound ?_
  split
  · split
    · exact h
    · exact h.of
  · exact h

/-- Every command keeps the law. -/
theorem exec_noticesSound (h : NoticesSound s) (c : Instr) : ∃ t, exec c s = .next t ∧ NoticesSound t := by
  cases c with
  | raise p n l c => exact event_noticesSound (h.received p n fun _ hu => hu.reconcileRaise p _ c)
  | drop p n l c => exact event_noticesSound (h.received p n fun _ hu => hu.reconcileDrop p _ c)
  | present p n v0 c0 v1 c1 =>
    exact event_noticesSound (h.received p n fun _ hu => (hu.reconcilePresent p _ v0 c0).reconcilePresent p _ v1 c1)
  | portLinkLoss p => exact portLinkLoss_noticesSound h p
  | portLinkGained p => exact portLinkGained_noticesSound h p
  | quietTimerExpiry p n => exact quietTimerExpiry_noticesSound h p n
  | fieldFrameDiscarded | probe | rollcall | parkReplyTimeout | helloReplyGrant | parkGrant | mgmtResponseGrant =>
    refine ⟨_, rfl, ?_⟩
    dsimp only
    split <;> exact h.of
  | portTransmissionComplete | storageFault | laneLinkGained | hostWakeRaised | idleTimerExpiry | deepTimerExpiry =>
    exact ⟨_, rfl, h.of⟩
  | hello k m => exact hello_noticesSound h k m
  | goodbye k => exact goodbye_noticesSound h k
  | retire k v => exact event_noticesSound (h.hostFrame k fun _ hu => hu.takeRetire k v)
  | credit k c => exact event_noticesSound (h.hostFrame k fun _ hu => hu.takeCredit k c)
  | mgmtRequest k payload => exact event_noticesSound (h.hostFrame k fun _ hu => hu.takeRequest k payload)
  | ready k => exact event_noticesSound (h.hostFrame k fun _ hu => hu)
  | parkAck k w => exact parkAck_noticesSound h k w
  | parkNak k w => exact parkNak_noticesSound h k w
  | laneFrameDiscarded k b => exact laneFrameDiscarded_noticesSound h k b
  | laneLinkLost k => exact laneLinkLost_noticesSound h k
  | wakeTimerExpiry k => exact wakeTimerExpiry_noticesSound h k
  | noticeGrant => exact noticeGrant_noticesSound h
  | send k => exact send_noticesSound h k
  | transmissionComplete k => exact transmissionComplete_noticesSound h k
  | restartEvent => exact restartEvent_noticesSound h
  | powerOnReset ports lanes wakes => exact powerOnReset_noticesSound ports lanes wakes s
  | sweepVisit => exact sweepVisit_noticesSound h
  | refusedUnknown => exact refusedUnknown_noticesSound h
  | readEntry | readGroup | readLane | readNode | readPort => exact service_noticesSound h fun _ _ _ hu => hu.withOperand _ fun _ => hu
  | identify | readNotices | readSweep => exact service_noticesSound h fun _ _ _ hu => hu
  | readStaging | restart => exact service_noticesSound h fun _ _ _ hu => hu.of
  | stageEntry | stageGroup => exact service_noticesSound h fun k _ _ hu => hu.withOperand _ (hu.stage k)
  | commit => exact service_noticesSound h fun k _ _ hu => hu.commitStaging k
  | discard => exact service_noticesSound h fun k _ _ hu => hu.discardStaging k
  | setLane => exact service_noticesSound h fun k _ _ hu => hu.withOperand _ (hu.setLaneBody k)
  | setPort => exact service_noticesSound h fun _ _ _ hu => hu.withOperand _ fun _ => hu.of
  | setManager => exact service_noticesSound h fun _ _ _ hu => hu.withOperand _ hu.writeManager
  | clearNotices => exact service_noticesSound h fun _ _ _ hu => hu.withOperand _ hu.clearKinds
  | clearCounters => exact service_noticesSound h fun _ _ _ hu => hu.withOperand _ hu.zeroCounters
  | forceRetire => exact service_noticesSound h fun _ _ _ hu => hu.withOperand _ hu.forceRetireBody
  | startSweep => exact service_noticesSound h fun _ _ _ hu => hu.startSweepBody

theorem NoticesSound.exec (h : NoticesSound s) {c : Instr} (e : exec c s = .next t) : NoticesSound t := by
  obtain ⟨u, hu, hsound⟩ := exec_noticesSound h c
  rw [hu] at e
  cases e
  exact hsound

/-- Every step keeps the law: the command it takes, or the microsecond that passes. -/
theorem NoticesSound.step (h : NoticesSound s) (hs : step s = .next t) : NoticesSound t := by
  unfold Machine.step at hs
  split at hs
  · next rest _ =>
    have hrest : NoticesSound { s with pending := rest } := h.of
    exact hrest.exec hs
  · split at hs
    · exact h.exec hs
    · cases hs; exact h.of

end notices

/-- Settles O57: a raise counts to 255 at most, only a set kind is marked as sent, and the kinds that are cleared take their clear values (R181). -/
theorem noticeLawIsKept : Obligations.NoticeLawIsKept := fun _ _ h hs => h.step hs

end Sys2Proof.Machine

/-!
# The step

What a step does with a command that waits, and on an empty queue: which timer's expiry it takes, and what one microsecond changes (notes/assumptions/1.md).
-/

namespace Sys2Proof.Machine

-- One theorem is elaborated after the other: many at once need too many threads.
set_option Elab.async false

section step
variable {s : State}

theorem step_of_waiting {c : Instr} {rest : List Instr} (h : s.pending = c :: rest) : step s = exec c { s with pending := rest } := by
  simp only [step, h]

theorem step_of_due {c : Instr} (hq : s.pending = []) (h : firstDue s = some c) : step s = exec c s := by
  simp only [step, hq, h]

theorem step_of_nothing_due (hq : s.pending = []) (h : firstDue s = none) : step s = .next (advance s) := by
  simp only [step, hq, h]

end step

/-! ### Which expiry is due -/

/-- The presence record of a row is that of the row's port and node (R97). -/
theorem node_of_row (s : State) (j : NodeIdx) : s.node ⟨j / 64, by omega⟩ ⟨j % 64, by omega⟩ = s.nodes[j.val] := by
  have hj : nodeIndex ⟨j / 64, by omega⟩ ⟨j % 64, by omega⟩ = j := by
    simp only [nodeIndex, Fin.ext_iff]
    omega
  simp only [State.node, hj]

section due
variable {s : State}

/-- A lane's due expiry is not the sweep's. -/
theorem due_ne_sweepVisit (l : Lane) (k : LaneId) : l.due k ≠ some .sweepVisit := by
  unfold Lane.due
  split_ifs <;> nofun

/-- A quiet timer that has elapsed comes first; then a lane's timer; and the visit timer where neither has (notes/assumptions/1.md). -/
theorem firstDue_cases (s : State) :
    (∃ p n, (s.node p n).quietTimer = some 0 ∧ firstDue s = some (.quietTimerExpiry p n)) ∨
    ((∀ p n, (s.node p n).quietTimer ≠ some 0) ∧
      ((∃ k c, (s.lane k).due k = some c ∧ firstDue s = some c) ∨
        ((∀ k, (s.lane k).due k = none) ∧ firstDue s = if s.sweep.visitTimer = some 0 then some .sweepVisit else none))) := by
  have hrow := mem_rowsWhere (fun r : NodeRecord => decide (r.quietTimer = some 0)) s.nodes
  unfold firstDue
  split
  · next j rest hrows =>
    have hj := (hrow j).mp (hrows ▸ List.mem_cons_self)
    exact .inl ⟨_, _, by rw [node_of_row]; exact of_decide_eq_true hj, rfl⟩
  · next hrows =>
    refine .inr ⟨fun p n hp => ?_, ?_⟩
    · have hmem := (hrow (nodeIndex p n)).mpr (decide_eq_true hp)
      simp [hrows] at hmem
    · split
      · next c hc =>
        obtain ⟨k, -, hk⟩ := List.exists_of_findSome?_eq_some hc
        exact .inl ⟨k, c, hk, rfl⟩
      · next hnone => exact .inr ⟨fun k => List.findSome?_eq_none_iff.mp hnone k (List.mem_finRange k), rfl⟩

/-- A command that is the expiry of an elapsed timer is a quiet timer's, a lane's with an expiry due, or the visit timer's. -/
theorem elapsed_cases {d : Instr} (h : s.elapsed d) :
    (∃ p n, d = .quietTimerExpiry p n ∧ (s.node p n).quietTimer = some 0) ∨ (∃ k, (s.lane k).due k ≠ none) ∨
    (d = .sweepVisit ∧ s.sweep.visitTimer = some 0) := by
  have lane : ∀ k, ((s.lane k).idleTimer = some 0 ∨ (s.lane k).deepTimer = some 0 ∨ (s.lane k).parkReplyTimer = some 0 ∨
      (s.lane k).wakeTimer = some 0) → ∃ k, (s.lane k).due k ≠ none := fun k ht => ⟨k, by rw [ne_eq, due_none]; tauto⟩
  cases d with
  | quietTimerExpiry p n => exact .inl ⟨p, n, rfl, h⟩
  | idleTimerExpiry k => exact .inr (.inl (lane k (.inl h)))
  | deepTimerExpiry k => exact .inr (.inl (lane k (.inr (.inl h))))
  | parkReplyTimeout k w => exact .inr (.inl (lane k (.inr (.inr (.inl h.1)))))
  | wakeTimerExpiry k => exact .inr (.inl (lane k (.inr (.inr (.inr h)))))
  | sweepVisit => exact .inr (.inr ⟨rfl, h⟩)
  | _ => exact h.elim

theorem firstDue_elapsed {c : Instr} (h : firstDue s = some c) : s.elapsed c := by
  rcases firstDue_cases s with ⟨p, n, hp, e⟩ | ⟨-, ⟨k, d, hd, e⟩ | ⟨-, e⟩⟩ <;> rw [e] at h
  · cases h; exact hp
  · cases h; exact due_elapsed hd
  · split at h
    · next hv => cases h; exact hv
    · cases h

/-- A quiet timer's expiry is taken before every other. -/
theorem firstDue_quiet_first {c : Instr} {p : Port} {n : Node} (h : firstDue s = some c) (hp : (s.node p n).quietTimer = some 0) :
    ∃ q m, c = .quietTimerExpiry q m := by
  rcases firstDue_cases s with ⟨q, m, -, e⟩ | ⟨hnone, -⟩
  · rw [e] at h
    cases h
    exact ⟨q, m, rfl⟩
  · exact absurd hp (hnone p n)

/-- The sweep's visit is taken only where no other timer has elapsed. -/
theorem firstDue_sweepVisit_last {d : Instr} (h : firstDue s = some .sweepVisit) (hd : s.elapsed d) : d = .sweepVisit := by
  rcases firstDue_cases s with ⟨p, n, -, e⟩ | ⟨hquiet, ⟨k, c, hc, e⟩ | ⟨hlanes, -⟩⟩
  · rw [e] at h
    cases h
  · rw [e] at h
    cases h
    exact absurd hc (due_ne_sweepVisit _ k)
  · rcases elapsed_cases hd with ⟨p, n, -, hp⟩ | ⟨k, hk⟩ | ⟨rfl, -⟩
    · exact absurd hp (hquiet p n)
    · exact absurd (hlanes k) hk
    · rfl

/-- Nothing is due exactly when no quiet timer, no lane and not the visit timer has an expiry due. -/
theorem firstDue_none : firstDue s = none ↔
    (∀ p n, (s.node p n).quietTimer ≠ some 0) ∧ (∀ k, (s.lane k).due k = none) ∧ s.sweep.visitTimer ≠ some 0 := by
  rcases firstDue_cases s with ⟨p, n, hp, e⟩ | ⟨hquiet, ⟨k, c, hc, e⟩ | ⟨hlanes, e⟩⟩ <;> rw [e]
  · exact ⟨nofun, fun h => absurd hp (h.1 p n)⟩
  · exact ⟨nofun, fun h => nomatch hc.symm.trans (h.2.1 k)⟩
  · simp [hquiet, hlanes]

theorem firstDue_none_iff_no_elapsed : firstDue s = none ↔ ∀ c, ¬ s.elapsed c := by
  constructor
  · intro h c hc
    obtain ⟨hquiet, hlanes, hvisit⟩ := firstDue_none.mp h
    rcases elapsed_cases hc with ⟨p, n, -, hp⟩ | ⟨k, hk⟩ | ⟨-, hv⟩
    · exact hquiet p n hp
    · exact hk (hlanes k)
    · exact hvisit hv
  · intro h
    cases hf : firstDue s with
    | none => rfl
    | some c => exact absurd (firstDue_elapsed hf) (h c)

end due

/-! ### One microsecond -/

theorem advance_node (s : State) (p : Port) (n : Node) :
    (advance s).node p n = { s.node p n with quietTimer := (s.node p n).quietTimer.map (· - 1) } :=
  getElem_mapRows _ s.nodes _ _

theorem advance_lane (s : State) (k : LaneId) :
    (advance s).lane k = { s.lane k with
      idleTimer := (s.lane k).idleTimer.map (· - 1), deepTimer := (s.lane k).deepTimer.map (· - 1)
      parkReplyTimer := (s.lane k).parkReplyTimer.map (· - 1), wakeTimer := (s.lane k).wakeTimer.map (· - 1) } := by
  fin_cases k <;> rfl

theorem advance_frame (s : State) : advance s =
    { s with
      nodes := (advance s).nodes, lanes := (advance s).lanes
      sweep := { s.sweep with visitTimer := s.sweep.visitTimer.map (· - 1) } } := rfl

/-- Settles O1: the queue's front and rest are what the step reads. -/
theorem stepTakesTheFrontCommand : Obligations.StepTakesTheFrontCommand := fun s c rest =>
  step_of_waiting (s := { s with pending := c :: rest }) rfl

/-- Settles O2: the first due expiry by the three groups of timers in their order, and where none is due the microsecond by field. -/
theorem emptyQueueLetsTimePass : Obligations.EmptyQueueLetsTimePass := by
  intro s hq
  refine ⟨fun c h => ⟨firstDue_elapsed h, step_of_due hq h, fun ⟨_, _, hp⟩ => firstDue_quiet_first h hp, ?_⟩, firstDue_none_iff_no_elapsed, ?_,
    fun h => ⟨advance s, step_of_nothing_due hq h, advance_node s, advance_lane s, advance_frame s⟩⟩
  · rintro rfl d hd
    exact firstDue_sweepVisit_last h hd
  · simp only [firstDue_none, due_none]

end Sys2Proof.Machine

/-!
# The queue of waiting commands

Every procedure that a command's effect is made of leaves the queue of waiting commands as it was, and so does every command (notes/assumptions/1.md,
notes/assumptions/19.md). A procedure whose frame is already stated has it from its frame.
-/

namespace Sys2Proof.Machine

-- One theorem is elaborated after the other: many at once need too many threads.
set_option Elab.async false

section queue
variable {s t : State}

theorem DeliveryFrame.pending (h : DeliveryFrame s t) : t.pending = s.pending := by rw [h]

theorem AbsenceFrame.pending (h : AbsenceFrame s t) : t.pending = s.pending := by rw [h]

theorem SameFrame.pending (h : SameFrame s t) : t.pending = s.pending := by
  obtain ⟨-, -, -, -, -, -, hp⟩ := h
  exact hp

theorem foldl_pending {α : Type} {f : State → α → State} (hf : ∀ u a, (f u a).pending = u.pending) (l : List α) (s : State) :
    (l.foldl f s).pending = s.pending := by
  induction l generalizing s with
  | nil => rfl
  | cons a rest ih => exact (ih _).trans (hf s a)

/-- An effect that is one of two, of which both keep the queue. -/
theorem ite_pending {b : Prop} [Decidable b] {u : State} (ht : t.pending = s.pending) (hu : u.pending = s.pending) :
    (if b then t else u).pending = s.pending := by
  split
  · exact ht
  · exact hu

end queue

section procedures
variable (s : State) (k : LaneId) (i : EntryIdx) (p : Port) (n : Node) (c : RaiseCount)

/-! ### Event intake and node presence -/

@[simp] theorem raiseNotice_pending (m : NoticeKind) (d : Nat) : (raiseNotice m d s).pending = s.pending := (Delivers.raiseNotice m d s).pending

@[simp] theorem recordCount_pending : (recordCount i c s).pending = s.pending := rfl

@[simp] theorem countMissed_pending (m : Nat) : (countMissed s p m).pending = s.pending := rfl

@[simp] theorem edgeRaise_pending (m : Nat) : (edgeRaise i m s).pending = s.pending := (Takes.edgeRaise i m s).frame.pending

@[simp] theorem levelAssert_pending : (levelAssert i s).pending = s.pending := (Takes.levelAssert i s).frame.pending

@[simp] theorem deassert_pending : (deassert i s).pending = s.pending := (Takes.deassert i s).frame.pending

@[simp] theorem raiseEffect_pending (m : Nat) : (raiseEffect i m s).pending = s.pending := (Takes.raiseEffect i m s).frame.pending

@[simp] theorem knownRaise_pending (diff : Nat) : (knownRaise p i c diff s).pending = s.pending := by
  simp [knownRaise]

@[simp] theorem knownDrop_pending (diff : Nat) : (knownDrop p i c diff s).pending = s.pending := by
  cases ht : (s.entry i).workTrigger with
  | edge => simp [knownDrop_edge ht]
  | level => simp [knownDrop_level ht]

@[simp] theorem reconcileRaise_pending : (reconcileRaise p i c s).pending = s.pending := by
  unfold reconcileRaise
  split
  · simp
  · split
    · rfl
    · simp

@[simp] theorem reconcileDrop_pending : (reconcileDrop p i c s).pending = s.pending := by
  unfold reconcileDrop
  split
  · simp
  · split
    · split
      · simp
      · rfl
    · simp

@[simp] theorem adoptPresent_pending (level : Bool) : (adoptPresent i level c s).pending = s.pending := by
  unfold adoptPresent
  dsimp only
  split
  · split
    · rfl
    · simp
  · rfl

@[simp] theorem reconcilePresent_pending (level : Bool) : (reconcilePresent p i level c s).pending = s.pending := by
  unfold reconcilePresent
  split
  · simp
  · split
    · split <;> simp
    · split <;> simp

@[simp] theorem heard_pending : (heard p n s).pending = s.pending := by
  unfold heard
  dsimp only
  split <;> simp

/-- A frame that is received is accepted, and then reconciled (R31). -/
theorem received_pending {f : State → State} (hf : ∀ u, (f u).pending = u.pending) :
    (if receives s p then accepted p n f s else s).pending = s.pending :=
  ite_pending ((hf _).trans (heard_pending _ p n)) rfl

@[simp] theorem nodeAbsence_pending : (nodeAbsence p n s).pending = s.pending :=
  (nodeAbsence_frame p n s).pending

@[simp] theorem portLoss_pending : (portLoss p s).pending = s.pending := (portLoss_frame p s).pending

@[simp] theorem portGain_pending : (portGain p s).pending = s.pending := by simp [portGain]

/-! ### Lanes -/

@[simp] theorem laneLoss_pending (cause : LossCause) : (laneLoss k cause s).pending = s.pending := (SameFrame.laneLoss k cause s).pending

@[simp] theorem helloDown_pending (limit : Byte) : (helloDown k limit s).pending = s.pending := (helloDown_frame k limit s).pending

@[simp] theorem frameWakes_pending : (frameWakes k s).pending = s.pending := by rw [frameWakes_frame]

theorem hostFrame_pending {take : State → State} (h : ∀ u, (take u).pending = u.pending) : (hostFrame k take s).pending = s.pending := by
  unfold hostFrame
  exact ite_pending ((h _).trans (frameWakes_pending s k)) rfl

@[simp] theorem releaseAll_pending (is : List EntryIdx) : (releaseAll is s).pending = s.pending := (Releases.releaseAll is s).frame.pending

theorem takeRetire_pending (v : Byte) : (takeRetire k v s).pending = s.pending := by
  unfold takeRetire
  dsimp only
  split
  · exact raiseNotice_pending ..
  · exact releaseAll_pending ..

theorem takeCredit_pending (m : Byte) : (takeCredit k m s).pending = s.pending := by
  unfold takeCredit
  dsimp only
  split
  · rfl
  · split
    · rfl
    · exact raiseNotice_pending ..

theorem takeRequest_pending (payload : List Byte) : (takeRequest k payload s).pending = s.pending := by
  unfold takeRequest
  split
  · split
    · rfl
    · split <;> rfl
  · rfl

theorem sendHead_pending (item : Item) (rest : List Item) : (sendHead k item rest s).pending = s.pending := by
  rw [sendHead_eq]
  exact (Delivers.promote k (sentItem k item rest s)).pending

/-! ### The operations of management, the Table Sweep and the resets -/

theorem withOperand_pending {α : Type} (o : Option α) {body : α → State → Reply} (h : ∀ a u, (body a u).after.pending = u.pending) :
    (withOperand o body s).after.pending = s.pending := by
  cases o with
  | none => rfl
  | some a => exact h a s

theorem stage_pending (r : StagedRecord) : (stage k r s).after.pending = s.pending := by
  unfold stage
  split
  · rfl
  · split
    · rfl
    · split <;> rfl

theorem discardStaging_pending : (discardStaging k s).after.pending = s.pending := by
  unfold discardStaging
  split
  · rfl
  · split <;> rfl

theorem applyCommit_pending : (applyCommit s).pending = s.pending := by rw [applyCommit_frame]

theorem commitStaging_pending : (commitStaging k s).after.pending = s.pending := by
  unfold commitStaging
  split
  · rfl
  · split
    · rfl
    · split
      · rfl
      · exact applyCommit_pending s

theorem writeSettings_pending (st : LaneSettings) : (writeSettings k st s).pending = s.pending := by
  unfold writeSettings
  dsimp only
  split
  · split
    · exact laneLoss_pending ..
    · rfl
  all_goals rfl

theorem setLaneBody_pending (a : LaneId × LaneSettings) : (setLaneBody k a s).after.pending = s.pending := by
  unfold setLaneBody
  split
  · rfl
  · split
    · rfl
    · exact writeSettings_pending ..

theorem writeManager_pending : (writeManager k s).pending = s.pending := by
  unfold writeManager
  dsimp only
  split
  · rfl
  · split <;> rfl

theorem clearKinds_pending (kinds : List NoticeKind) : (clearKinds kinds s).pending = s.pending :=
  foldl_pending (fun u m => setNotice_pending u m .clear) kinds s

theorem zeroCounters_pending (target : CounterTarget) : (zeroCounters target s).pending = s.pending := by
  cases target <;> rfl

theorem forceRetireBody_pending : (forceRetireBody i s).after.pending = s.pending := by
  unfold forceRetireBody
  split
  · exact ((Takes.unbind i s).trans (.settleRelease i _)).frame.pending
  · rfl

theorem startSweepBody_pending : (startSweepBody s).after.pending = s.pending := by
  unfold startSweepBody
  split <;> rfl

@[simp] theorem visitEntry_pending : (visitEntry i s).pending = s.pending := by
  unfold visitEntry
  exact ite_pending rfl (Delivers.quarantineFound i s).pending

@[simp] theorem advanceSweep_pending : (advanceSweep s).pending = s.pending := by
  unfold advanceSweep
  exact ite_pending rfl (raiseNotice_pending ..)

/-- The power-on reset takes the queue over, and the links it then detects leave it (notes/assumptions/19.md). -/
theorem powerOn_pending (ports : List Port) (lanes wakes : List LaneId) :
    (detectPorts ports (detectLanes lanes wakes { State.reset with pending := s.pending })).pending = s.pending := by
  unfold detectPorts
  rw [foldl_pending fun u p => ite_pending rfl (portGain_pending u p), detectLanes, mapLanes_pending]

end procedures

/-! ### Every command -/

/-- The command answers a next state, with the queue of `s`. -/
def KeepsQueue (s : State) (o : Host.Outcome State Fault Refusal) : Prop := ∃ t, o = .next t ∧ t.pending = s.pending

section commands
variable {s : State}

/-- An event keeps the queue where its effect does: the idle timing that ends it touches lanes alone (R127). -/
theorem event_keepsQueue {crossed : Option LaneId} {f : State → State} (h : (f s).pending = s.pending) : KeepsQueue s (event crossed s f) :=
  ⟨_, event_next crossed s f, h⟩

/-- A service keeps the queue where its operation does. -/
theorem service_keepsQueue {code : Nat} {write : Bool} {body : LaneId → List Byte → State → Reply}
    (h : ∀ k args u, (body k args u).after.pending = u.pending) : KeepsQueue s (event none s (serve code write body)) := by
  refine event_keepsQueue ?_
  rcases serve_cases code write body s with ⟨e, -⟩ | ⟨k, r, -, -, ⟨-, e⟩ | ⟨-, e⟩⟩ <;> rw [e]
  · rfl
  · exact h k r.args { s with pointer := k }

variable (s)

theorem quietTimerExpiry_keepsQueue (p : Port) (n : Node) : KeepsQueue s (execQuietTimerExpiry p n s) := by
  refine event_keepsQueue ?_
  split
  · split
    · rfl
    · exact nodeAbsence_pending s p n
    all_goals rfl
  · rfl

theorem hello_keepsQueue (k : LaneId) (limit : Byte) : KeepsQueue s (execHello k limit s) := by
  refine event_keepsQueue ?_
  split
  · split
    · simp
    · split
      · simp
      · rfl
  · rfl

theorem parkAck_keepsQueue (k : LaneId) (w : Bool) : KeepsQueue s (execParkAck k w s) := by
  refine event_keepsQueue ?_
  split
  · dsimp only
    split
    · rfl
    · exact hostFrame_pending _ k fun _ => rfl
  · rfl

theorem parkNak_keepsQueue (k : LaneId) (w : Bool) : KeepsQueue s (execParkNak k w s) := by
  refine event_keepsQueue ?_
  split
  · dsimp only
    split
    · rfl
    · exact hostFrame_pending _ k fun _ => rfl
  · rfl

theorem laneFrameDiscarded_keepsQueue (k : LaneId) (bytes : List Byte) : KeepsQueue s (execLaneFrameDiscarded k bytes s) := by
  unfold execLaneFrameDiscarded
  split <;> exact event_keepsQueue rfl

theorem laneLinkLost_keepsQueue (k : LaneId) : KeepsQueue s (execLaneLinkLost k s) := by
  refine event_keepsQueue ?_
  split
  · split
    · exact laneLoss_pending ..
    · rfl
  · rfl

theorem send_keepsQueue (k : LaneId) : KeepsQueue s (execSend k s) := by
  refine event_keepsQueue ?_
  split
  · exact sendHead_pending ..
  · rfl

theorem transmissionComplete_keepsQueue (k : LaneId) : KeepsQueue s (execTransmissionComplete k s) := by
  refine event_keepsQueue ?_
  split
  · dsimp only
    split <;> rfl
  · rfl

theorem powerOnReset_keepsQueue (ports : List Port) (lanes wakes : List LaneId) : KeepsQueue s (execPowerOnReset ports lanes wakes s) :=
  event_keepsQueue (powerOn_pending s ports lanes wakes)

theorem sweepVisit_keepsQueue : KeepsQueue s (execSweepVisit s) := by
  refine event_keepsQueue ?_
  split
  · simp
  · rfl

theorem refusedUnknown_keepsQueue : KeepsQueue s (execRefusedUnknown s) := by
  refine event_keepsQueue ?_
  split
  · split <;> rfl
  · rfl

/-- Every command answers a next state and keeps the queue. -/
theorem exec_keepsQueue (c : Instr) : KeepsQueue s (exec c s) := by
  cases c with
  | raise p n l c => exact event_keepsQueue (received_pending s p n fun u => reconcileRaise_pending u _ p c)
  | drop p n l c => exact event_keepsQueue (received_pending s p n fun u => reconcileDrop_pending u _ p c)
  | present p n v0 c0 v1 c1 => exact event_keepsQueue (received_pending s p n fun u => by simp)
  | portLinkLoss p => exact ⟨_, rfl, ite_pending (portLoss_pending s p) rfl⟩
  | portLinkGained p => exact ⟨_, rfl, ite_pending rfl (portGain_pending s p)⟩
  | quietTimerExpiry p n => exact quietTimerExpiry_keepsQueue s p n
  | fieldFrameDiscarded | probe | rollcall | parkReplyTimeout | helloReplyGrant | parkGrant | mgmtResponseGrant | noticeGrant | restartEvent =>
    refine ⟨_, rfl, ?_⟩
    dsimp only
    split <;> rfl
  | portTransmissionComplete | storageFault | laneLinkGained | hostWakeRaised | idleTimerExpiry | deepTimerExpiry =>
    exact ⟨_, rfl, rfl⟩
  | hello k m => exact hello_keepsQueue s k m
  | goodbye k => exact event_keepsQueue (ite_pending (laneLoss_pending s k _) rfl)
  | retire k v => exact event_keepsQueue (hostFrame_pending s k fun u => takeRetire_pending u k v)
  | credit k m => exact event_keepsQueue (hostFrame_pending s k fun u => takeCredit_pending u k m)
  | mgmtRequest k payload => exact event_keepsQueue (hostFrame_pending s k fun u => takeRequest_pending u k payload)
  | ready k => exact event_keepsQueue (hostFrame_pending s k fun _ => rfl)
  | parkAck k w => exact parkAck_keepsQueue s k w
  | parkNak k w => exact parkNak_keepsQueue s k w
  | laneFrameDiscarded k b => exact laneFrameDiscarded_keepsQueue s k b
  | laneLinkLost k => exact laneLinkLost_keepsQueue s k
  | wakeTimerExpiry k => exact ⟨_, rfl, ite_pending (laneLoss_pending s k _) rfl⟩
  | send k => exact send_keepsQueue s k
  | transmissionComplete k => exact transmissionComplete_keepsQueue s k
  | powerOnReset ports lanes wakes => exact powerOnReset_keepsQueue s ports lanes wakes
  | sweepVisit => exact sweepVisit_keepsQueue s
  | refusedUnknown => exact refusedUnknown_keepsQueue s
  | identify | readNotices | readSweep | readStaging | restart => exact service_keepsQueue fun _ _ _ => rfl
  | readEntry | readGroup | readLane | readNode | readPort | setPort =>
    exact service_keepsQueue fun _ _ u => withOperand_pending u _ fun _ _ => rfl
  | stageEntry | stageGroup => exact service_keepsQueue fun k _ u => withOperand_pending u _ fun r v => stage_pending v k r
  | commit => exact service_keepsQueue fun k _ u => commitStaging_pending u k
  | discard => exact service_keepsQueue fun k _ u => discardStaging_pending u k
  | setLane => exact service_keepsQueue fun k _ u => withOperand_pending u _ fun a v => setLaneBody_pending v k a
  | setManager => exact service_keepsQueue fun _ _ u => withOperand_pending u _ fun k v => writeManager_pending v k
  | clearNotices => exact service_keepsQueue fun _ _ u => withOperand_pending u _ fun kinds v => clearKinds_pending v kinds
  | clearCounters => exact service_keepsQueue fun _ _ u => withOperand_pending u _ fun target v => zeroCounters_pending v target
  | forceRetire => exact service_keepsQueue fun _ _ u => withOperand_pending u _ fun i v => forceRetireBody_pending v i
  | startSweep => exact service_keepsQueue fun _ _ u => startSweepBody_pending u

end commands

/-- Settles O3: every command is an event, and every effect keeps the queue. -/
theorem everyCommandCompletesAndKeepsTheQueue : Obligations.EveryCommandCompletesAndKeepsTheQueue := exec_keepsQueue

end Sys2Proof.Machine
